-- ==== Sys2Proof/Word.lean ====
section
/-! DEFINITION. The word types of the block's five fixed-width formats (spec/30_encoding.md R50)
and of its registers (spec/10_state.md, section 1). -/

namespace Sys2Proof

/-- A byte is 8 bits (R6). -/
abbrev Byte := BitVec 8

/-- Format H: a host command word (R51). -/
abbrev CmdWord := BitVec 4

/-- Format T: a transport or delay request word (R54). -/
abbrev ReqWord := BitVec 25

/-- Format WA, and STAT: a transport status code, 32 bits two's complement (R5 STATUS_WIDTH, R16, R56). -/
abbrev Status := BitVec 32

/-- Format RA: the answer to a block read (R57). -/
abbrev ReadWord := BitVec 67

/-- Format RS: a packed response record (R58). -/
abbrev RespWord := BitVec 86

/-- An output value register OUT_TF, OUT_TC or OUT_H (R5 OUT_WIDTH, R17). -/
abbrev OutWord := BitVec 16

/-- A quantity mask: bit 0 is F, bit 1 is C, bit 2 is H (R13, R51). -/
abbrev QMask := BitVec 3

end Sys2Proof
end

