-- ==== Sys2Proof/Config.lean ====
section
/-! DEFINITION. What is fixed for the block: the constants of spec/00_scope.md R4, the parameters of
R5 with the values this spec gives them, and the one free value of the model (the order in which
held command words are accepted, spec/60_exceptions.md R140). -/

namespace Sys2Proof

/-- DEV_ADDR, the sensor's bus address, hardwired (R4, R19). -/
def Config.devAddr : BitVec 7 := 0x27

/-- REG_ADDR, the register address of trigger write and read, hardwired (R4, R19). -/
def Config.regAddr : Byte := 0x00

/-- TRIG_LEN, the data length of the trigger block write (R4). -/
def Config.trigLen : Byte := 0

/-- READ_LEN, the data length of the block read (R4). -/
def Config.readLen : Byte := 4

/-- DELAY_MS, the fixed delay in milliseconds (R4). -/
def Config.delayMs : Byte := 40

/-- IO_ERROR_CODE, the generic I/O error a short read is normalised to: −5, the value this spec
takes (R5, R127, spec/92_eei_decisions.md D4). DESIGN CHOICE, unsafe (log entry 1): the spec leaves
the parameter OPEN with the one constraint that it is not zero, and no statement uses more of it
than `Config.ioErrorCode_ne_zero`. -/
def Config.ioErrorCode : Status := BitVec.ofInt 32 (-5)

/-- The one constraint the spec puts on IO_ERROR_CODE (R5, R127). -/
theorem Config.ioErrorCode_ne_zero : Config.ioErrorCode ≠ 0 := by decide

/-- FREE VALUE (log entry 2): which of several held command words the port accepts, drawn afresh for
each acceptance. The spec leaves the order open (R140, spec/93 U15), so it has no body. -/
opaque Config.acceptChoice : Nat → Nat

end Sys2Proof
end

