-- ==== Sys2Proof/Syntax.lean ====
section
/-! DEFINITION. The instructions: one constructor per row of spec/opcode_table.json, that is the six
host commands (spec/30_encoding.md R52) and the three transport micro-operations (R55). Then the
abstract records of the other formats of R50: requests, read answers and responses. -/

namespace Sys2Proof

/-- The dispatcher's two policies (spec/10_state.md R14, R18). -/
inductive Policy where
  /-- one acquisition shared by all requested quantities; code 0 -/
  | shared
  /-- one acquisition per requested quantity; code 1 -/
  | perQuantity
  deriving DecidableEq, Repr

/-- The instruction set. Only `set_policy` has an operand, its policy bit (R59). -/
inductive Instr where
  /-- `read_temp_f` (R110) -/
  | readTempF
  /-- `read_temp_c` (R111) -/
  | readTempC
  /-- `read_humid` (R112) -/
  | readHumid
  /-- `read_temp_humid` (R113) -/
  | readTempHumid
  /-- `read_all` (R114) -/
  | readAll
  /-- `set_policy p` (R115) -/
  | setPolicy (p : Policy)
  /-- `trig_write` (R71) -/
  | trigWrite
  /-- `wait40` (R72) -/
  | wait40
  /-- `blk_read` (R73) -/
  | blkRead
  deriving DecidableEq, Repr

/-- A word the block takes an instruction from: a host command word at the command port (format H),
or the request word of a transport micro-operation (format T). -/
inductive Code where
  | cmd (w : CmdWord)
  | req (t : ReqWord)
  deriving DecidableEq, Repr

/-- Why a word names no instruction. -/
inductive Reject where
  /-- one of the nine reserved command words (R53); accepted in IDLE it is answered with an
  IllegalCommand response (R116) -/
  | reservedCommand (w : CmdWord)
  /-- a request word with OP = 0b00, "no request (never emitted)" (R54, spec/93 U12) -/
  | noRequest (t : ReqWord)
  /-- a request word other than the three of R55, never emitted (spec/93 U12) -/
  | unknownRequest (t : ReqWord)
  deriving DecidableEq, Repr

/-- What the instruction decoder answers: an instruction, or a rejection by name. -/
inductive Verdict where
  | instr (i : Instr)
  | reject (r : Reject)
  deriving DecidableEq, Repr

/-- The abstract request records of format T (R54). -/
inductive Request where
  | busWrite (dev : BitVec 7) (reg len : Byte)
  | busRead (dev : BitVec 7) (reg len : Byte)
  | delay (ms : Byte)
  deriving DecidableEq, Repr

/-- The abstract answer to a block read (R57): the bytes delivered, in the order received, as a list
whose length is `bytes_read`, and the transport's status. -/
structure ReadAnswer where
  data : List Byte
  status : Status
  deriving DecidableEq, Repr

/-- The error kinds of ERR and of a response (R16, R58, spec/60_exceptions.md R125). -/
inductive ErrKind where
  | none
  | writeFail
  | readFail
  /-- appears in the response to a reserved command word only, never stored in ERR (R16, R130) -/
  | illegalCmd
  deriving DecidableEq, Repr

/-- The abstract response record (R58): `v` is {VH, VC, VF}, and each value field is present exactly
when its valid bit is 1. -/
structure Response where
  err : ErrKind
  stat : Status
  pol : Policy
  v : QMask
  tf : Option OutWord
  tc : Option OutWord
  h : Option OutWord
  deriving DecidableEq, Repr

end Sys2Proof
end

