-- ==== Sys2Proof/WellFormed.lean ====
section
/-! DEFINITION. The checks on terms of the syntax. An instruction needs none: its one operand is of a
two-valued type (R59). The records of the formats do: what a request, a read answer and a response
may hold is narrower than their types. -/

namespace Sys2Proof

/-- Every term of `Instr` is well formed: eight rows have no operand and the ninth has one of two
values (spec/30_encoding.md R59). -/
def Instr.wf : Instr → Bool
  | .readTempF => true
  | .readTempC => true
  | .readHumid => true
  | .readTempHumid => true
  | .readAll => true
  | .setPolicy _ => true
  | .trigWrite => true
  | .wait40 => true
  | .blkRead => true

/-- A request the block may emit: one of the three of R55 ("No other request word is ever emitted"). -/
def Request.wf : Request → Bool
  | .busWrite dev reg len => dev == Config.devAddr && reg == Config.regAddr && len == Config.trigLen
  | .busRead dev reg len => dev == Config.devAddr && reg == Config.regAddr && len == Config.readLen
  | .delay ms => ms == Config.delayMs

/-- A read answer of the transport's contract: `bytes_read` is in 0..4 (spec/20_memory.md R32). -/
def ReadAnswer.wf (a : ReadAnswer) : Bool :=
  decide (a.data.length ≤ 4)

/-- A response the record of R58 allows: a value field is present exactly when its valid bit is 1; an
error excludes every value (R129, R116); STAT is not 0 exactly for the two bus errors (R58, R16). -/
def Response.wf (r : Response) : Bool :=
  r.v.getLsbD 0 == r.tf.isSome
    && r.v.getLsbD 1 == r.tc.isSome
    && r.v.getLsbD 2 == r.h.isSome
    && (r.err == .none || r.v == 0)
    && ((r.err == .writeFail || r.err == .readFail) == (r.stat != 0))

end Sys2Proof
end

