-- ==== Sys2Proof/Decode.lean ====
section
/-! DEFINITION. The instruction decoder, total on the words of formats H and T, and after it the
encoder (spec/30_encoding.md R51 to R55, spec/opcode_table.json). -/

namespace Sys2Proof

/-! ## Field codes -/

/-- The code of a policy (spec/10_state.md R14). -/
def Policy.bit : Policy → Bool
  | .shared => false
  | .perQuantity => true

/-- The policy of a code (R14, R51 field P). -/
def Policy.ofBit (b : Bool) : Policy :=
  if b then .perQuantity else .shared

/-- Field K of a command word, bit 3: 1 is a configuration command (R51). -/
def CmdWord.isConfig (w : CmdWord) : Bool := w.getLsbD 3

/-- Fields QH, QC, QF of a command word, bits 2:0 (R51). -/
def CmdWord.mask (w : CmdWord) : QMask := w.extractLsb' 0 3

/-- Bits 2:1 of a command word, which must be 0b00 where K = 1 (R51). -/
def CmdWord.zeroField (w : CmdWord) : BitVec 2 := w.extractLsb' 1 2

/-- Field P of a command word, bit 0 (R51). -/
def CmdWord.policy (w : CmdWord) : Policy := Policy.ofBit (w.getLsbD 0)

/-- Field OP of a request word, bits 24:23 (R54). -/
def ReqWord.op (t : ReqWord) : BitVec 2 := t.extractLsb' 23 2

/-- Field DEV of a request word, bits 22:16 (R54). -/
def ReqWord.dev (t : ReqWord) : BitVec 7 := t.extractLsb' 16 7

/-- Field REG of a request word, bits 15:8 (R54). -/
def ReqWord.reg (t : ReqWord) : Byte := t.extractLsb' 8 8

/-- Field LEN of a request word, bits 7:0 (R54). -/
def ReqWord.len (t : ReqWord) : Byte := t.extractLsb' 0 8

/-! ## Decoding -/

/-- A query word selects its command by the whole quantity mask (R52); the masks {}, {F, C} and
{C, H} are reserved (R53). -/
def decodeQuery (m : QMask) : Option Instr :=
  if m = 0b001 then some .readTempF
  else if m = 0b010 then some .readTempC
  else if m = 0b100 then some .readHumid
  else if m = 0b101 then some .readTempHumid
  else if m = 0b111 then some .readAll
  else none

/-- Format H (R51 to R53): seven of the sixteen words name a command, nine are reserved. -/
def decodeCmd (w : CmdWord) : Verdict :=
  if CmdWord.isConfig w then
    if CmdWord.zeroField w = 0 then .instr (.setPolicy (CmdWord.policy w))
    else .reject (.reservedCommand w)
  else
    match decodeQuery (CmdWord.mask w) with
    | some i => .instr i
    | none => .reject (.reservedCommand w)

/-- Format T (R54, R55): the three request words, each with every field fixed. -/
def decodeReq (t : ReqWord) : Verdict :=
  if ReqWord.op t = 0b00 then .reject (.noRequest t)
  else if ReqWord.op t = 0b01 then
    if ReqWord.dev t = Config.devAddr ∧ ReqWord.reg t = Config.regAddr ∧ ReqWord.len t = Config.trigLen
    then .instr .trigWrite else .reject (.unknownRequest t)
  else if ReqWord.op t = 0b10 then
    if ReqWord.dev t = Config.devAddr ∧ ReqWord.reg t = Config.regAddr ∧ ReqWord.len t = Config.readLen
    then .instr .blkRead else .reject (.unknownRequest t)
  else
    if ReqWord.dev t = 0 ∧ ReqWord.reg t = 0 ∧ ReqWord.len t = Config.delayMs
    then .instr .wait40 else .reject (.unknownRequest t)

/-- The decoder, total on every word of both formats. -/
def decode : Code → Verdict
  | .cmd w => decodeCmd w
  | .req t => decodeReq t

/-- The word an opcode-table row's number stands for: a row of format H has 4 bits (one whole byte,
the four bits above the word 0), a row of format T has 25 (four whole bytes, the seven bits above
the word 0; log entry 12). -/
def tableCode (nbits w : Nat) : Option Code :=
  if 4 ≤ nbits ∧ nbits ≤ 8 ∧ w < 16 then some (.cmd (BitVec.ofNat 4 w))
  else if 25 ≤ nbits ∧ nbits ≤ 32 ∧ w < 33554432 then some (.req (BitVec.ofNat 25 w))
  else none

/-- The instruction the decoder reads from a word numbered as spec/opcode_table.json numbers it. -/
def decodeTableWord (nbits w : Nat) : Option Instr :=
  match tableCode nbits w with
  | some c =>
    match decode c with
    | .instr i => some i
    | .reject _ => none
  | none => none

/-! ## Encoding -/

/-- A query word of format H: K = 0 above the quantity mask (R51). -/
def queryWord (m : QMask) : CmdWord := 0#1 ++ m

/-- A `set_policy` word of format H: 0b100 above the policy bit (R51, R52). -/
def policyWord (p : Policy) : CmdWord := 0b100#3 ++ BitVec.ofBool p.bit

/-- A request word of format T from its four fields (R54). -/
def reqWord (op : BitVec 2) (dev : BitVec 7) (reg len : Byte) : ReqWord := op ++ dev ++ reg ++ len

/-- The request word of `trig_write` (R55). -/
def trigWord : ReqWord := reqWord 0b01 Config.devAddr Config.regAddr Config.trigLen

/-- The request word of `wait40`: DEV and REG are 0 for a delay, LEN is its milliseconds (R54, R55). -/
def waitWord : ReqWord := reqWord 0b11 0 0 Config.delayMs

/-- The request word of `blk_read` (R55). -/
def readWord : ReqWord := reqWord 0b10 Config.devAddr Config.regAddr Config.readLen

/-- The encoder: the word of each instruction (R52, R55). -/
def encode : Instr → Code
  | .readTempF => .cmd (queryWord 0b001)
  | .readTempC => .cmd (queryWord 0b010)
  | .readHumid => .cmd (queryWord 0b100)
  | .readTempHumid => .cmd (queryWord 0b101)
  | .readAll => .cmd (queryWord 0b111)
  | .setPolicy p => .cmd (policyWord p)
  | .trigWrite => .req trigWord
  | .wait40 => .req waitWord
  | .blkRead => .req readWord

end Sys2Proof
end

