-- ==== Sys2Proof/Machine/State.lean ====
section
/-! DEFINITION. The machine's state as plain data, the reset state, and the reasons a step can stop.
The registers are those of spec/10_state.md, section 1; the ports are what the agents outside the
block (host, transport, delay primitive) offer to it; the trace is its observable behaviour
(spec/00_scope.md R8). -/

namespace Sys2Proof.Machine

/-- SEQ, the sequencer phase, which plays the role of the program counter (R12). The codes 6 and 7
are never taken and have no constructor (R12, spec/93 U13, log entry 13). -/
inductive Phase where
  | idle
  | trig
  | wait
  | read
  | dec
  | resp
  deriving DecidableEq, Repr

/-- The raw byte registers B[0], B[1], B[2], B[3] (R10). -/
structure RawSample where
  b0 : Byte
  b1 : Byte
  b2 : Byte
  b3 : Byte
  deriving DecidableEq, Repr

/-- The events of the trace (R8): `request` is `BusWrite`, `Delay` or `BusRead`. -/
inductive Event where
  /-- `Cmd(w)`: a command word is accepted -/
  | cmd (w : CmdWord)
  /-- `BusWrite`, `BusRead` or `Delay`: a request is issued -/
  | request (r : Request)
  /-- `WriteAns(status)` -/
  | writeAns (st : Status)
  /-- `DelayDone` -/
  | delayDone
  /-- `ReadAns(n, d0, d1, d2, d3, status)` -/
  | readAns (a : ReadAnswer)
  /-- `Resp(err, stat, pol, v, tf, tc, h)` -/
  | resp (r : Response)
  /-- The model's own mark of a reset (R145, R146), no event of R8 (log entry 6). -/
  | reset
  deriving DecidableEq, Repr

/-- Everything the spec gives the block, the ports of the agents around it, and the model's own
record. -/
@[ext]
structure State where
  /-- B[0..3]; they hold a value only while RAWV = 1 (R10) -/
  b : RawSample
  /-- RAWV (R10, R15) -/
  rawv : Bool
  /-- SEQ (R12) -/
  seq : Phase
  /-- PEND, the quantities still to be produced (R13) -/
  pend : QMask
  /-- CMDR, the quantity mask of the command in progress (R14) -/
  cmdr : QMask
  /-- POL, the policy latched for the command in progress (R14) -/
  pol : Policy
  /-- VF: OUT_TF holds a value (R15) -/
  vf : Bool
  /-- VC: OUT_TC holds a value (R15) -/
  vc : Bool
  /-- VH: OUT_H holds a value (R15) -/
  vh : Bool
  /-- ERR (R16) -/
  err : ErrKind
  /-- STAT (R16) -/
  stat : Status
  /-- OUT_TF, two's complement (R17) -/
  outTF : OutWord
  /-- OUT_TC, two's complement (R17) -/
  outTC : OutWord
  /-- OUT_H, unsigned (R17) -/
  outH : OutWord
  /-- CFG.POLICY (R18) -/
  cfgPolicy : Policy
  /-- a request of the phase SEQ is outstanding: it has been issued and its answer has not been
  taken (R22 (c), spec/20_memory.md R40, log entry 5) -/
  awaiting : Bool
  /-- input: reset is asserted and takes effect at the next step (R145, R146, log entry 6) -/
  resetReq : Bool
  /-- input, the command port: for each caller the command words it has presented and the port has
  not accepted, first presented first (spec/60_exceptions.md R139, R140, spec/30_encoding.md R60, log entry 10) -/
  callers : List (List CmdWord)
  /-- input: the transport's answers to block writes that the block has not taken, in the order of
  the requests they answer (R56, R60, log entry 4) -/
  writeAns : List Status
  /-- input: the transport's answers to block reads, packed in format RA, in the same order (R57, R60,
  log entry 4) -/
  readAns : List ReadWord
  /-- input: how many `DelayDone` the delay primitive has given that the block has not taken (R135,
  log entries 4 and 11) -/
  delayAns : Nat
  /-- the event trace, oldest first (R8) -/
  trace : List Event
  /-- the model's own: how many free values have been drawn (log entry 2) -/
  draws : Nat
  deriving DecidableEq, Repr

/-- The faults: reads the spec gives no meaning, each "a fault of the model". -/
inductive Fault where
  /-- The dispatch step reads B[0..3] while RAWV = 0 (R10, spec/93 U14). Raised by the dispatch step
  only; no reachable state raises it. Safe: the model stops where the spec gives no value (log entry 14). -/
  | sampleNotHeld
  /-- The dispatch step under PER_QUANTITY with PEND = 0, outside its precondition (R108). Raised by
  the dispatch step only; no reachable state raises it. Safe: the spec names no next quantity (log entry
  14). -/
  | nothingPending
  deriving DecidableEq, Repr

/-- The refusals. -/
inductive Refusal where
  /-- An arm of `exec` that has no meaning yet, by its mnemonic. No arm uses it. Safe. -/
  | notModelled (mnemonic : String)
  /-- A micro-operation asked for outside its phase: "only in the phases TRIG, WAIT and READ
  respectively" (R40). Raised by `exec` of a micro-operation in another phase; `step` never does so.
  Safe: the request is never emitted there (log entry 7). -/
  | outOfPhase
  /-- A request word that is none of the three of R55 (spec/93 U12). Raised by `step` if it selected
  one, which it never does. Safe: no such word is ever emitted (log entry 13). -/
  | notARequest
  deriving DecidableEq, Repr

/-- The state right after reset, on a block to which nothing has been presented: the values of R24
and R145. B[0..3], OUT_TF, OUT_TC and OUT_H hold no value there; the bits stored for them are 0,
DESIGN CHOICE, unsafe (log entry 3). The ports are empty, the trace is empty and no free value has
been drawn. -/
def State.reset : State where
  b := ⟨0, 0, 0, 0⟩
  rawv := false
  seq := .idle
  pend := 0
  cmdr := 0
  pol := .shared
  vf := false
  vc := false
  vh := false
  err := .none
  stat := 0
  outTF := 0
  outTC := 0
  outH := 0
  cfgPolicy := .shared
  awaiting := false
  resetReq := false
  callers := []
  writeAns := []
  readAns := []
  delayAns := 0
  trace := []
  draws := 0

end Sys2Proof.Machine
end

