-- ==== Sys2Proof/Machine/Conversion.lean ====
section
/-! DEFINITION. The Sample Decoder (spec/41_decode.md R85 to R98): field extraction and the three
fixed-point conversions, on exact integers, for every one of the 2^32 inputs. -/

namespace Sys2Proof.Machine

/-- A PhysicalReading (spec/10_state.md R11): tenths of °F, of °C and of %RH. -/
structure Reading where
  tf : Int
  tc : Int
  h : Nat
  deriving DecidableEq, Repr

/-- `unpack_h`: the 14-bit humidity field; the two status bits of byte0 are masked away (R86). -/
def unpackH (b0 b1 : Byte) : Nat := ((b0.toNat &&& 0x3F) <<< 8) ||| b1.toNat

/-- `unpack_t`: the 14-bit temperature field; the low two bits of byte3 are masked away (R87). -/
def unpackT (b2 b3 : Byte) : Nat := (((b2.toNat &&& 0xFF) <<< 8) + (b3.toNat &&& 0xFC)) >>> 2

/-- `conv_h`: humidity in tenths of a percent (R88). -/
def convH (hraw : Nat) : Nat := (hraw * 1000) >>> 14

/-- `conv_c`: temperature in tenths of a degree Celsius; the offset is subtracted after the shift
(R89). -/
def convC (traw : Nat) : Int := (((traw * 1650) >>> 14 : Nat) : Int) - 400

/-- `conv_f`: temperature in tenths of a degree Fahrenheit, from the truncated Celsius value, the
division truncating toward zero (R90). -/
def convF (tc : Int) : Int := Int.tdiv (tc * 18) 10 + 320

/-- `decode`, the decoder as a whole (R85). -/
def decodeSample (s : RawSample) : Reading where
  tf := convF (convC (unpackT s.b2 s.b3))
  tc := convC (unpackT s.b2 s.b3)
  h := convH (unpackH s.b0 s.b1)

end Sys2Proof.Machine
end

