-- ==== Sys2Proof/Machine/Operands.lean ====
section
/-! DEFINITION. The operand forms: the quantity mask of a query and of PEND (spec/30_encoding.md R51,
R59, spec/10_state.md R13), and the narrowing of a decoder value to an output register (R17, R59).
The policy operand of `set_policy` is `Policy.ofBit` and `Policy.bit` of Decode.lean. -/

namespace Sys2Proof.Machine

/-- The three quantities, in the order of their mask bits: F, C, H (R13). -/
inductive Quantity where
  | f
  | c
  | h
  deriving DecidableEq, Repr

/-- The bit number of a quantity in a mask (R13). -/
def Quantity.bit : Quantity → Nat
  | .f => 0
  | .c => 1
  | .h => 2

/-- Whether a mask holds a quantity. -/
def maskHas (m : QMask) (q : Quantity) : Bool := m.getLsbD q.bit

/-- The mask with one quantity cleared (`PEND[q] <- 0`, R108). -/
def maskClear (m : QMask) (q : Quantity) : QMask := m &&& ~~~((1 : QMask) <<< q.bit)

/-- The lowest-numbered set bit of a mask: F before C before H (R108). -/
def maskLowest (m : QMask) : Option Quantity :=
  if maskHas m .f then some .f
  else if maskHas m .c then some .c
  else if maskHas m .h then some .h
  else none

/-- How many quantities a mask holds (popcount, R117). -/
def maskCount (m : QMask) : Nat :=
  (maskHas m .f).toNat + (maskHas m .c).toNat + (maskHas m .h).toNat

/-- `sext_16` of a signed decoder value (R17, R6). -/
def sext16 (x : Int) : OutWord := BitVec.ofInt 16 x

/-- `zext_16` of an unsigned decoder value (R17, R6). -/
def zext16 (n : Nat) : OutWord := BitVec.ofNat 16 n

end Sys2Proof.Machine
end

