-- ==== Sys2Proof/Machine/Flags.lean ====
section
/-! DEFINITION. The flags (spec/10_state.md R15): VF, VC, VH, RAWV and the derived BUSY. None is a
condition code. -/

namespace Sys2Proof.Machine

/-- BUSY: 1 exactly when SEQ is not IDLE (R15). -/
def State.busy (s : State) : Bool := s.seq != .idle

/-- The valid bits as the response carries them, {VH, VC, VF} (R58, R109). -/
def State.valid (s : State) : QMask :=
  BitVec.ofBool s.vh ++ BitVec.ofBool s.vc ++ BitVec.ofBool s.vf

/-- VF <- 0; VC <- 0; VH <- 0: the output registers hold no value (R15). -/
def State.clearValid (s : State) : State := { s with vf := false, vc := false, vh := false }

/-- RAWV <- 0: B[0..3] hold no value (R10, R15). -/
def State.clearRaw (s : State) : State := { s with rawv := false }

/-- The successful end of `blk_read` writes all four raw bytes at once and sets RAWV (R10, R73). -/
def State.loadSample (s : State) (r : RawSample) : State := { s with b := r, rawv := true }

/-- The dispatch step writes the output register of one quantity and sets its flag (R107, R108). -/
def State.putOut (s : State) (r : Reading) : Quantity → State
  | .f => { s with outTF := sext16 r.tf, vf := true }
  | .c => { s with outTC := sext16 r.tc, vc := true }
  | .h => { s with outH := zext16 r.h, vh := true }

end Sys2Proof.Machine
end

