-- ==== Sys2Proof/Machine/Formats.lean ====
section
/-! DEFINITION. The packed forms of requests, answers and responses (spec/30_encoding.md R54, R56,
R57, R58) and the codes of the registers (spec/10_state.md R12, R14, R16). Format WA is a status
word as it stands (R56). -/

namespace Sys2Proof.Machine

/-- The codes of SEQ (R12). -/
def Phase.code : Phase → BitVec 3
  | .idle => 0
  | .trig => 1
  | .wait => 2
  | .read => 3
  | .dec => 4
  | .resp => 5

/-- The ERR codes (R16, R58). -/
def errCode : ErrKind → BitVec 2
  | .none => 0
  | .writeFail => 1
  | .readFail => 2
  | .illegalCmd => 3

/-- The error kind of an ERR code. -/
def errOfCode (c : BitVec 2) : ErrKind :=
  if c = 0 then .none else if c = 1 then .writeFail else if c = 2 then .readFail else .illegalCmd

/-- Format T: a request as its 25-bit word (R54); DEV and REG are 0 for a delay. -/
def packRequest : Request → ReqWord
  | .busWrite dev reg len => reqWord 0b01 dev reg len
  | .busRead dev reg len => reqWord 0b10 dev reg len
  | .delay ms => reqWord 0b11 0 0 ms

/-- `bytes_read` of an answer word: field N, with the reserved codes 5, 6 and 7 read as 4 (R57). -/
def readCount (w : ReadWord) : Nat := min (w.extractLsb' 64 3).toNat 4

/-- Format RA: the answer record of a 67-bit word; only the first N bytes carry a value (R57). -/
def unpackReadAnswer (w : ReadWord) : ReadAnswer where
  data := [w.extractLsb' 56 8, w.extractLsb' 48 8, w.extractLsb' 40 8, w.extractLsb' 32 8].take (readCount w)
  status := w.extractLsb' 0 32

/-- The byte of an answer at a place, 0 where none was delivered. -/
def answerByte (a : ReadAnswer) (i : Nat) : Byte := a.data.getD i 0

/-- Format RA: an answer record of the transport's contract as its word, the unused bytes driven 0
(R57, spec/95_test_vectors.md V8). -/
def packReadAnswer (a : ReadAnswer) : ReadWord :=
  BitVec.ofNat 3 a.data.length ++ answerByte a 0 ++ answerByte a 1 ++ answerByte a 2 ++ answerByte a 3 ++ a.status

/-- A value field of the packed response: 0 where it is absent (R58). -/
def outField : Option OutWord → OutWord
  | some x => x
  | none => 0

/-- Format RS: a response as its 86-bit word (R58). -/
def packResponse (r : Response) : RespWord :=
  errCode r.err ++ BitVec.ofBool r.pol.bit ++ r.v ++ r.stat ++ outField r.tf ++ outField r.tc ++ outField r.h

/-- A value field as the host may read it: a measurement only when its valid bit is 1 (R58, R138). -/
def readField (valid : Bool) (x : OutWord) : Option OutWord := if valid then some x else none

/-- Format RS: the response record the host reads from a word (R58). -/
def unpackResponse (w : RespWord) : Response where
  err := errOfCode (w.extractLsb' 84 2)
  pol := Policy.ofBit (w.getLsbD 83)
  v := w.extractLsb' 80 3
  stat := w.extractLsb' 48 32
  tf := readField (w.getLsbD 80) (w.extractLsb' 32 16)
  tc := readField (w.getLsbD 81) (w.extractLsb' 16 16)
  h := readField (w.getLsbD 82) (w.extractLsb' 0 16)

end Sys2Proof.Machine
end

