-- ==== Sys2Proof/Machine/Ops.lean ====
section
/-! DEFINITION. The named operations every meaning is made of: the trace, the phase, requests and
their answers, the start of a query, taking an exception (spec/60_exceptions.md R129) and leaving it
again (R109, R132), the response to a reserved word (R116), the command port (R105, R139, R140), and
reset (R145, R146). -/

namespace Sys2Proof.Machine

/-- `emit E`: append an event to the trace (R7). -/
def State.emit (e : Event) (s : State) : State := { s with trace := s.trace ++ [e] }

/-- `SEQ <- phase` (R7). -/
def State.goto (p : Phase) (s : State) : State := { s with seq := p }

/-! ## Requests and answers (spec/20_memory.md R31, R32, R40) -/

/-- First half of a micro-operation: the request is emitted and is now outstanding (R40). -/
def State.issue (r : Request) (s : State) : State :=
  { s with awaiting := true, trace := s.trace ++ [.request r] }

/-- Second half of `trig_write`: `take WriteAns(st)`; `rest` are the answers still to come. -/
def State.takeWriteAns (st : Status) (rest : List Status) (s : State) : State :=
  { s with awaiting := false, writeAns := rest, trace := s.trace ++ [.writeAns st] }

/-- Second half of `wait40`: `take DelayDone`; `rest` completions are still to come. -/
def State.takeDelayDone (rest : Nat) (s : State) : State :=
  { s with awaiting := false, delayAns := rest, trace := s.trace ++ [.delayDone] }

/-- Second half of `blk_read`: `take ReadAns(n, d0, d1, d2, d3, st)` from its packed word. -/
def State.takeReadAns (w : ReadWord) (rest : List ReadWord) (s : State) : State :=
  { s with awaiting := false, readAns := rest, trace := s.trace ++ [.readAns (unpackReadAnswer w)] }

/-! ## The start of a query -/

/-- `start_query(m)` (spec/42_dispatch.md R106): latch the mask and the configured policy, clear what
an earlier command left, start the first acquisition. -/
def State.startQuery (m : QMask) (s : State) : State :=
  { s with
    cmdr := m, pend := m, pol := s.cfgPolicy
    err := .none, stat := 0
    vf := false, vc := false, vh := false, rawv := false
    seq := .trig }

/-- A host command as an instruction: it has its effect in IDLE; while BUSY = 1 its word is held at
the port, which "causes no event and changes no state" (spec/60_exceptions.md R140). -/
def acceptedIn (s effect : State) : Host.Outcome State Fault Refusal :=
  if s.busy then .next s else .next effect

/-! ## Exceptions -/

/-- Trap entry, `raise K(st)` for WriteFailure and ReadFailure (R129): the kind and the status are
recorded, the values of earlier acquisitions dropped, the pending ones not started. -/
def State.trapEntry (k : ErrKind) (st : Status) (s : State) : State :=
  { s with
    err := k, stat := st
    vf := false, vc := false, vh := false
    pend := 0, rawv := false
    seq := .resp }

/-- A value as the response carries it: present exactly when its flag is 1 (R109). -/
def validField (flag : Bool) (x : OutWord) : Option OutWord := if flag then some x else none

/-- The record the response step emits (R109). -/
def State.response (s : State) : Response where
  err := s.err
  stat := s.stat
  pol := s.pol
  v := s.valid
  tf := validField s.vf s.outTF
  tc := validField s.vc s.outTC
  h := validField s.vh s.outH

/-- The response step, `respond` (R109): deliver the outcome and leave nothing behind. It is also the
way out of an exception; there is no return-from-trap command (R132). -/
def State.respond (s : State) : State :=
  { s with
    trace := s.trace ++ [.resp s.response]
    err := .none, stat := 0
    vf := false, vc := false, vh := false
    pend := 0, rawv := false
    seq := .idle }

/-- A response without values: err, stat 0, policy, v = 0b000 (R115, R116). -/
def bareResponse (k : ErrKind) (p : Policy) : Response where
  err := k
  stat := 0
  pol := p
  v := 0
  tf := none
  tc := none
  h := none

/-- `illegal()` (R116, R130): a reserved word accepted in IDLE is answered and nothing changes. -/
def State.illegal (s : State) : State := s.emit (.resp (bareResponse .illegalCmd s.cfgPolicy))

/-- `set_policy(p)` (R115). -/
def State.setPolicy (p : Policy) (s : State) : State :=
  { s with cfgPolicy := p, trace := s.trace ++ [.resp (bareResponse .none p)] }

/-! ## The command port -/

/-- Every word the port could accept now, one per caller that holds one, each with what the callers
hold once it is accepted (R139, R140). -/
def offers : List (List CmdWord) → List (CmdWord × List (List CmdWord))
  | [] => []
  | [] :: cs => (offers cs).map fun o => (o.1, [] :: o.2)
  | (w :: ws) :: cs => (w, ws :: cs) :: (offers cs).map fun o => (o.1, (w :: ws) :: o.2)

/-- The word the port accepts: the one held, or one of several in an order the spec leaves open, by
the free value numbered `n` (R140, log entry 2). -/
def chooseOffer (n : Nat) (os : List (CmdWord × List (List CmdWord))) :
    Option (CmdWord × List (List CmdWord)) :=
  match os with
  | [] => none
  | [o] => some o
  | _ => os[Config.acceptChoice n % os.length]?

/-- Acceptance takes the word off the port and emits `Cmd(w)` (R105). -/
def State.accept (w : CmdWord) (rest : List (List CmdWord)) (s : State) : State :=
  { s with callers := rest, draws := s.draws + 1, trace := s.trace ++ [.cmd w] }

/-! ## Reset -/

/-- The answers left once the one to an abandoned request, if there is one, is ignored (R146). -/
def dropIf {α : Type} (abandoned : Bool) (l : List α) : List α :=
  if abandoned then l.tail else l

/-- Reset, whatever the phase (R145, R146): every register takes its reset value and no response is
emitted; an answer to the request outstanding is ignored. What the callers hold, the answers to
later requests, the trace and the count of free values are not the block's and stay; the trace gets
the model's mark (log entry 6). -/
def State.applyReset (s : State) : State :=
  { State.reset with
    callers := s.callers
    writeAns := dropIf (s.awaiting && s.seq == .trig) s.writeAns
    readAns := dropIf (s.awaiting && s.seq == .read) s.readAns
    delayAns := if s.awaiting && s.seq == .wait then s.delayAns - 1 else s.delayAns
    trace := s.trace ++ [.reset]
    draws := s.draws }

end Sys2Proof.Machine
end

