-- ==== Sys2Proof/Machine/Commands.lean ====
section
/-! DEFINITION. The meanings of the six host commands (spec/42_dispatch.md R110 to R115). A query's
own effect is `start_query` with its quantity mask (R52); the acquisitions and the response are the
steps of the phases that follow. -/

namespace Sys2Proof.Machine

/-- `read_temp_f`: `start_query(0b001)` (R110). -/
def execReadTempF (s : State) : Host.Outcome State Fault Refusal := acceptedIn s (s.startQuery 0b001)

/-- `read_temp_c`: `start_query(0b010)` (R111). -/
def execReadTempC (s : State) : Host.Outcome State Fault Refusal := acceptedIn s (s.startQuery 0b010)

/-- `read_humid`: `start_query(0b100)` (R112). -/
def execReadHumid (s : State) : Host.Outcome State Fault Refusal := acceptedIn s (s.startQuery 0b100)

/-- `read_temp_humid`: `start_query(0b101)` (R113). -/
def execReadTempHumid (s : State) : Host.Outcome State Fault Refusal := acceptedIn s (s.startQuery 0b101)

/-- `read_all`: `start_query(0b111)` (R114). -/
def execReadAll (s : State) : Host.Outcome State Fault Refusal := acceptedIn s (s.startQuery 0b111)

/-- `set_policy p`: configure the policy and answer at once (R115). -/
def execSetPolicy (p : Policy) (s : State) : Host.Outcome State Fault Refusal :=
  acceptedIn s (s.setPolicy p)

end Sys2Proof.Machine
end

