-- ==== Sys2Proof/Machine/Transport.lean ====
section
/-! DEFINITION. The meanings of the three transport micro-operations (spec/40_acquire.md R70 to R77).
Each has two halves in its own phase: it emits its request, and then takes the answer; while the
answer has not come it stays where it is (spec/20_memory.md R40, spec/42_dispatch.md R120). -/

namespace Sys2Proof.Machine

/-- The request of `trig_write`: `BusWrite(0x27, 0x00, 0)` (R71). -/
def trigRequest : Request := .busWrite Config.devAddr Config.regAddr Config.trigLen

/-- The request of `wait40`: `Delay(40)` (R72). -/
def waitRequest : Request := .delay Config.delayMs

/-- The request of `blk_read`: `BusRead(0x27, 0x00, 4)` (R73). -/
def readRequest : Request := .busRead Config.devAddr Config.regAddr Config.readLen

/-- What the answer to the trigger write leads to: a non-zero status raises WriteFailure, zero goes on
to WAIT (R71, R126). -/
def State.afterWrite (st : Status) (s : State) : State :=
  if st ≠ 0 then s.trapEntry .writeFail st else s.goto .wait

/-- `trig_write` (R71). -/
def execTrigWrite (s : State) : Host.Outcome State Fault Refusal :=
  if s.seq = .trig then
    if s.awaiting then
      match s.writeAns with
      | [] => .next s
      | st :: rest => .next ((s.takeWriteAns st rest).afterWrite st)
    else .next (s.clearRaw.issue trigRequest)
  else .refused .outOfPhase

/-- `wait40` (R72). -/
def execWait40 (s : State) : Host.Outcome State Fault Refusal :=
  if s.seq = .wait then
    if s.awaiting then
      match s.delayAns with
      | 0 => .next s
      | n + 1 => .next ((s.takeDelayDone n).goto .read)
    else .next (s.issue waitRequest)
  else .refused .outOfPhase

/-- What the answer to the block read leads to (R73): fewer than 4 bytes raise ReadFailure with
IO_ERROR_CODE whatever the status (R127), a non-zero status raises ReadFailure with it (R128), else
the four bytes are stored unchanged in the order received (R74). -/
def State.afterRead (a : ReadAnswer) (s : State) : State :=
  match a.data with
  | d0 :: d1 :: d2 :: d3 :: _ =>
    if a.status ≠ 0 then s.trapEntry .readFail a.status
    else (s.loadSample ⟨d0, d1, d2, d3⟩).goto .dec
  | _ => s.trapEntry .readFail Config.ioErrorCode

/-- `blk_read` (R73). -/
def execBlkRead (s : State) : Host.Outcome State Fault Refusal :=
  if s.seq = .read then
    if s.awaiting then
      match s.readAns with
      | [] => .next s
      | w :: rest => .next ((s.takeReadAns w rest).afterRead (unpackReadAnswer w))
    else .next (s.issue readRequest)
  else .refused .outOfPhase

end Sys2Proof.Machine
end

