-- ==== Sys2Proof/Machine/Dispatch.lean ====
section
/-! DEFINITION. One arm per instruction: its meaning. -/

namespace Sys2Proof.Machine

def exec (i : Instr) (s : State) : Host.Outcome State Fault Refusal :=
  match i with
  | .readTempF => Sys2Proof.Machine.execReadTempF s
  | .readTempC => Sys2Proof.Machine.execReadTempC s
  | .readHumid => Sys2Proof.Machine.execReadHumid s
  | .readTempHumid => Sys2Proof.Machine.execReadTempHumid s
  | .readAll => Sys2Proof.Machine.execReadAll s
  | .setPolicy p => Sys2Proof.Machine.execSetPolicy p s
  | .trigWrite => Sys2Proof.Machine.execTrigWrite s
  | .wait40 => Sys2Proof.Machine.execWait40 s
  | .blkRead => Sys2Proof.Machine.execBlkRead s

end Sys2Proof.Machine
end

