-- ==== Sys2Proof/Machine/Sequencer.lean ====
section
/-! DEFINITION. The steps of the sequencer that are no instruction (spec/42_dispatch.md): which word a
phase takes its instruction from (R105, spec/10_state.md R12), the dispatch step under the two
policies (R107, R108), a rejected word (R116), and the agents' inputs (spec/00_scope.md R8). -/

namespace Sys2Proof.Machine

/-! ## Selecting the next instruction -/

/-- What the phase SEQ does next. -/
inductive Fetch where
  /-- IDLE with no word presented: nothing (R120) -/
  | nothing
  /-- an instruction word, and the state in which its instruction runs -/
  | code (c : Code) (s : State)
  /-- DEC: the dispatch step -/
  | dispatch
  /-- RESP: the response step -/
  | respond
  deriving DecidableEq, Repr

/-- In IDLE the word accepted at the command port (R105); in TRIG, WAIT and READ the constant request
word of the phase's micro-operation (R12, R55); DEC and RESP have steps of their own. -/
def State.fetch (s : State) : Fetch :=
  match s.seq with
  | .idle =>
    match chooseOffer s.draws (offers s.callers) with
    | none => .nothing
    | some o => .code (.cmd o.1) (s.accept o.1 o.2)
  | .trig => .code (.req trigWord) s
  | .wait => .code (.req waitWord) s
  | .read => .code (.req readWord) s
  | .dec => .dispatch
  | .resp => .respond

/-- A word the decoder rejects: a reserved command word is answered with IllegalCommand (R116); the
block never emits a request word other than the three of R55. -/
def rejectWord (r : Reject) (s : State) : Host.Outcome State Fault Refusal :=
  match r with
  | .reservedCommand _ => .next s.illegal
  | .noRequest _ => .refused .notARequest
  | .unknownRequest _ => .refused .notARequest

/-! ## The dispatch step -/

/-- `if PEND[q] = 1: OUT_q <- value; V_q <- 1` (R107). -/
def State.putIfPending (q : Quantity) (r : Reading) (s : State) : State :=
  if maskHas s.pend q then s.putOut r q else s

/-- The end of the dispatch step: the sample is consumed, and a further acquisition starts exactly if a
quantity is still pending (R107, R108). -/
def State.endDispatch (m : QMask) (s : State) : State :=
  { s with pend := m, rawv := false, seq := if m = 0 then .resp else .trig }

/-- `dispatch_shared` (R107): every requested quantity is read off the one sample. -/
def State.dispatchShared (r : Reading) (s : State) : State :=
  (((s.putIfPending .f r).putIfPending .c r).putIfPending .h r).endDispatch 0

/-- `dispatch_per_quantity` for its quantity q (R108): the other decoded fields are dropped; a further,
complete acquisition follows while a quantity is pending. -/
def State.dispatchOne (q : Quantity) (r : Reading) (s : State) : State :=
  (s.putOut r q).endDispatch (maskClear s.pend q)

/-- The dispatch step (R107, R108). A read of B[0..3] with RAWV = 0 has no meaning (R10), nor has the
per-quantity step with nothing pending (R108). -/
def dispatchStep (s : State) : Host.Outcome State Fault Refusal :=
  if s.rawv then
    match s.pol with
    | .shared => .next (s.dispatchShared (decodeSample s.b))
    | .perQuantity =>
      match maskLowest s.pend with
      | none => .fault .nothingPending
      | some q => .next (s.dispatchOne q (decodeSample s.b))
  else .fault .sampleNotHeld

/-! ## Placing an instruction where the next step takes it -/

/-- The state whose next step runs the instruction word `c`: a command word is the only one presented
and the block is in IDLE; a micro-operation is at the start of its phase (log entry 8). A request
word that names no micro-operation has no place. -/
def State.select (c : Code) (s : State) : State :=
  match c with
  | .cmd w => { s with resetReq := false, seq := .idle, callers := [[w]] }
  | .req t =>
    match decodeReq t with
    | .instr .trigWrite => { s with resetReq := false, awaiting := false, seq := .trig }
    | .instr .wait40 => { s with resetReq := false, awaiting := false, seq := .wait }
    | .instr .blkRead => { s with resetReq := false, awaiting := false, seq := .read }
    | _ => s

/-! ## What the other agents do -/

/-- The inputs of the agents outside the block (R8). A transaction of another user of the bus is none of
them: keeping device 0x27 to this block is the platform's duty (spec/70_reset_and_hazards.md R149, log
entry 16). -/
inductive Input where
  /-- a caller presents a command word (R139) -/
  | present (caller : Nat) (w : CmdWord)
  /-- the transport answers a block write (R31) -/
  | writeAnswer (st : Status)
  /-- the transport answers a block read (R32) -/
  | readAnswer (w : ReadWord)
  /-- the delay primitive completes (R135) -/
  | delayDone
  /-- an answer to a request a reset has abandoned arrives (R146, log entry 15) -/
  | lateAnswer
  /-- reset is asserted (R145) -/
  | reset
  deriving DecidableEq, Repr

/-- The words a caller holds after it presents one more; a caller not seen before is added at the end. -/
def presentAt : List (List CmdWord) → Nat → CmdWord → List (List CmdWord)
  | [], _, w => [[w]]
  | c :: cs, 0, w => (c ++ [w]) :: cs
  | c :: cs, n + 1, w => c :: presentAt cs n w

/-- An input reaches a port and nothing else: "it alone changes the block's state" is said of the
sequencer (R8), a held word changes no state (R140), a late answer is ignored (R146). -/
def State.input (i : Input) (s : State) : State :=
  match i with
  | .present n w => { s with callers := presentAt s.callers n w }
  | .writeAnswer st => { s with writeAns := s.writeAns ++ [st] }
  | .readAnswer w => { s with readAns := s.readAns ++ [w] }
  | .delayDone => { s with delayAns := s.delayAns + 1 }
  | .lateAnswer => s
  | .reset => { s with resetReq := true }

end Sys2Proof.Machine
end

