-- ==== Sys2Proof/Machine/Step.lean ====
section
/-! DEFINITION. One step of the sequencer (spec/42_dispatch.md R120), and where an instruction is placed
for the next step. -/

namespace Sys2Proof.Machine

/-- One atomic step (R8): reset if it is asserted (R145, R146), else the step of the phase SEQ. Where
the phase takes an instruction word, the step decodes it and runs its meaning. -/
def step (s : State) : Host.Outcome State Fault Refusal :=
  if s.resetReq then .next s.applyReset
  else
    match s.fetch with
    | .nothing => .next s
    | .dispatch => dispatchStep s
    | .respond => .next s.respond
    | .code c s' =>
      match decode c with
      | .instr i => exec i s'
      | .reject r => rejectWord r s'

/-- The state with an opcode-table word placed where `step` takes its next instruction. -/
def State.withFetchWord (s : State) (nbits w : Nat) : State :=
  match tableCode nbits w with
  | some c => s.select c
  | none => s

end Sys2Proof.Machine
end

