-- ==== Sys2Proof/Safety.lean ====
section
/-! DEFINITION. What counts as a safe run, in the terms the statements use: the invariant of the
registers, the order of the trace, the number of acquisitions of a command, the states a run
reaches, and the part of a state that can influence what follows. -/

namespace Sys2Proof.Safety

open Sys2Proof.Machine

/-! ## The invariant of the registers -/

/-- A phase in which a command still has a quantity to produce. -/
def working (p : Phase) : Bool :=
  p == .trig || p == .wait || p == .read || p == .dec

/-- The quantity masks of the five queries (spec/30_encoding.md R52). -/
def queryMasks : List QMask := [0b001, 0b010, 0b100, 0b101, 0b111]

/-- What holds of the registers in every state a run reaches. -/
structure Inv (s : State) : Prop where
  /-- R23: in IDLE the block holds CFG.POLICY and nothing else. -/
  idle_holds_nothing : s.seq = .idle →
    s.pend = 0 ∧ s.rawv = false ∧ s.valid = 0 ∧ s.err = .none ∧ s.stat = 0 ∧ s.awaiting = false
  /-- R40: a request is outstanding only in TRIG, WAIT and READ. -/
  outstanding_phase : s.awaiting = true → s.seq = .trig ∨ s.seq = .wait ∨ s.seq = .read
  /-- R10, R71, R73: B[0..3] hold a sample exactly in DEC. -/
  sample_in_dec : s.rawv = true ↔ s.seq = .dec
  /-- R13: a quantity is pending exactly while the command works. -/
  pending_while_working : s.pend ≠ 0 ↔ working s.seq = true
  /-- R16, R129: no error and STAT = 0, or a bus error with a non-zero status that waits in RESP for
  its response, all values dropped. -/
  error_form : (s.err = .none ∧ s.stat = 0) ∨
    ((s.err = .writeFail ∨ s.err = .readFail) ∧ s.stat ≠ 0 ∧ s.seq = .resp ∧ s.valid = 0)
  /-- R13, R14, R107, R108: without an error the command's quantities are the pending and the valid
  ones, and no quantity is both. -/
  quantities_split : s.seq ≠ .idle → s.err = .none →
    s.cmdr = s.pend ||| s.valid ∧ s.pend &&& s.valid = 0
  /-- R107: under SHARED no value is held before the one sample has been dispatched. -/
  shared_all_at_once : s.pol = .shared → working s.seq = true → s.valid = 0
  /-- R52, R53: the command in progress is one of the five queries. -/
  query_in_progress : s.seq ≠ .idle → s.cmdr ∈ queryMasks
  /-- R39: the policy of the command in progress is the configured one. -/
  policy_latched : s.seq ≠ .idle → s.pol = s.cfgPolicy
  /-- R17, R96: a held value is in its range. -/
  tf_range : s.vf = true → -400 ≤ s.outTF.toInt ∧ s.outTF.toInt ≤ 2568
  tc_range : s.vc = true → -400 ≤ s.outTC.toInt ∧ s.outTC.toInt ≤ 1249
  h_range : s.vh = true → s.outH.toNat ≤ 999

/-! ## The order of events (spec/20_memory.md R36, R38, spec/40_acquire.md R70) -/

/-- Where a trace stands between the events of its commands. -/
inductive Progress where
  /-- no command in progress -/
  | idle
  /-- a query has been accepted, its first acquisition not started -/
  | ready
  /-- a trigger write is outstanding -/
  | wrote
  /-- the trigger write succeeded -/
  | triggered
  /-- a delay is outstanding -/
  | delaying
  /-- the delay is over -/
  | waited
  /-- a block read is outstanding -/
  | reading
  /-- an acquisition has delivered its sample: another one or the response comes next -/
  | sampled
  /-- a response without values is due, of this kind and with this status -/
  | reply (k : ErrKind) (st : Status)
  deriving DecidableEq, Repr

/-- Where an accepted command word leads: a query to its first acquisition (R106), `set_policy` and a
reserved word to their response (R115, R116). -/
def Progress.afterCmd (w : CmdWord) : Progress :=
  match decodeCmd w with
  | .instr (.setPolicy _) => .reply .none 0
  | .instr _ => .ready
  | .reject _ => .reply .illegalCmd 0

/-- Where the answer to a block read leads (R73). -/
def Progress.afterReadAns (a : ReadAnswer) : Progress :=
  if a.data.length < 4 then .reply .readFail Config.ioErrorCode
  else if a.status = 0 then .sampled else .reply .readFail a.status

/-- The request the protocol allows at a place, written out from R55, and where it leads. -/
def Progress.afterRequest : Progress → Option (Request × Progress)
  | .ready => some (.busWrite 0x27 0x00 0, .wrote)
  | .sampled => some (.busWrite 0x27 0x00 0, .wrote)
  | .triggered => some (.delay 40, .delaying)
  | .waited => some (.busRead 0x27 0x00 4, .reading)
  | .idle => none
  | .wrote => none
  | .delaying => none
  | .reading => none
  | .reply _ _ => none

/-- Whether the response at a place is the one due there: after the last sample one without error and
with at least one value, else the reply due, without values. -/
def Progress.responseDue (p : Progress) (r : Response) : Bool :=
  match p with
  | .sampled => r.err == .none && r.stat == 0 && r.v != 0
  | .reply k st => r.err == k && r.stat == st && r.v == 0
  | .idle => false
  | .ready => false
  | .wrote => false
  | .triggered => false
  | .delaying => false
  | .waited => false
  | .reading => false

/-- The events the protocol allows at a place, and where each leads; `none` is a violation. A reset
abandons what is in progress (R146). -/
def Progress.next (p : Progress) : Event → Option Progress
  | .cmd w => if p = .idle then some (Progress.afterCmd w) else none
  | .request r =>
    match p.afterRequest with
    | some (due, q) => if r = due then some q else none
    | none => none
  | .writeAns st => if p = .wrote then some (if st = 0 then .triggered else .reply .writeFail st) else none
  | .delayDone => if p = .delaying then some .waited else none
  | .readAns a => if p = .reading then some (Progress.afterReadAns a) else none
  | .resp r => if p.responseDue r then some .idle else none
  | .reset => some .idle

/-- Where a trace leads from a place, or `none` if it violates the protocol. -/
def Progress.run (p : Progress) : List Event → Option Progress
  | [] => some p
  | e :: es =>
    match p.next e with
    | none => none
    | some q => q.run es

/-- Where a state's trace must stand. -/
def progressOf (s : State) : Progress :=
  match s.seq with
  | .idle => .idle
  | .trig => if s.awaiting then .wrote else if s.valid = 0 then .ready else .sampled
  | .wait => if s.awaiting then .delaying else .triggered
  | .read => if s.awaiting then .reading else .waited
  | .dec => .sampled
  | .resp => if s.err = .none then .sampled else .reply s.err s.stat

/-- The trace so far follows the protocol and stands where the state says. -/
def InOrder (s : State) : Prop := Progress.idle.run s.trace = some (progressOf s)

/-- The phase R120 tabulates after a step without reset, from the registers and the ports alone. In IDLE
it depends on the word accepted, given by `fetch`. -/
def tabulatedNext (s : State) : Phase :=
  match s.seq with
  | .idle =>
    match s.fetch with
    | .code (.cmd w) _ =>
      if w ∈ [0b0001#4, 0b0010#4, 0b0100#4, 0b0101#4, 0b0111#4] then .trig else .idle
    | _ => .idle
  | .trig =>
    if s.awaiting = false then .trig
    else match s.writeAns with
      | [] => .trig
      | st :: _ => if st = 0 then .wait else .resp
  | .wait => if s.awaiting = true ∧ s.delayAns ≠ 0 then .read else .wait
  | .read =>
    if s.awaiting = false then .read
    else match s.readAns with
      | [] => .read
      | w :: _ => if 4 ≤ readCount w ∧ w.extractLsb' 0 32 = 0 then .dec else .resp
  | .dec =>
    if s.pol = .perQuantity ∧ 1 < maskCount s.pend then .trig else .resp
  | .resp => .idle

/-! ## Counting acquisitions (spec/42_dispatch.md R117, spec/40_acquire.md R76) -/

/-- Whether an event is a `BusWrite`, that is the start of an acquisition. -/
def isBusWrite : Event → Bool
  | .request (.busWrite _ _ _) => true
  | _ => false

/-- One more event in the count of `BusWrite` events since the last `Cmd`. -/
def countStep (n : Nat) : Event → Nat
  | .cmd _ => 0
  | .request (.busWrite _ _ _) => n + 1
  | _ => n

/-- The number of `BusWrite` events since the last `Cmd`. -/
def writesSinceCmd (es : List Event) : Nat := es.foldl countStep 0

/-- How many acquisitions a successful query for `n` quantities performs: one under SHARED, one for
each quantity under PER_QUANTITY (R117). -/
def acquisitionsDue (p : Policy) (n : Nat) : Nat :=
  match p with
  | .shared => 1
  | .perQuantity => n

/-- How many acquisitions the command in progress has started, from the registers: one for each value
held and one for the acquisition under way; at the response without error, as many as are due; at one
with an error, at least one and no more than are due. -/
def Counted (s : State) : Prop :=
  (s.seq = .trig → s.awaiting = false → writesSinceCmd s.trace = maskCount s.valid)
  ∧ (s.seq = .trig ∧ s.awaiting = true ∨ s.seq = .wait ∨ s.seq = .read ∨ s.seq = .dec →
    writesSinceCmd s.trace = maskCount s.valid + 1)
  ∧ (s.seq = .resp → s.err = .none →
    writesSinceCmd s.trace = acquisitionsDue s.pol (maskCount s.valid))
  ∧ (s.seq = .resp → s.err ≠ .none →
    1 ≤ writesSinceCmd s.trace ∧ writesSinceCmd s.trace ≤ acquisitionsDue s.pol (maskCount s.cmdr))

/-- The milliseconds of delay a trace has asked for: the sound lower bound of its elapsed time (R152). -/
def delayAsked (es : List Event) : Nat :=
  es.foldl (fun n e => match e with | .request (.delay ms) => n + ms.toNat | _ => n) 0

/-! ## Runs -/

/-- The states a run reaches: from reset, by steps of the sequencer and inputs of the other agents in
any order (spec/00_scope.md R8). -/
inductive Reachable : State → Prop where
  | start : Reachable State.reset
  | stepped {s t : State} : Reachable s → Machine.step s = .next t → Reachable t
  | fed {s : State} (i : Input) : Reachable s → Reachable (s.input i)

/-- An outcome with its next state seen through a function. -/
def mapNext (f : State → State) (o : Host.Outcome State Fault Refusal) : Host.Outcome State Fault Refusal :=
  match o with
  | .next s => .next (f s)
  | .fault r => .fault r
  | .refused r => .refused r

/-- A state without what no rule reads: B[0..3] while RAWV = 0 (R10), an output register while its
flag is 0 (R17), CMDR after acceptance (R14), POL in IDLE (R23). -/
def visible (s : State) : State :=
  { s with
    b := if s.rawv then s.b else ⟨0, 0, 0, 0⟩
    outTF := if s.vf then s.outTF else 0
    outTC := if s.vc then s.outTC else 0
    outH := if s.vh then s.outH else 0
    cmdr := 0
    pol := if s.seq = .idle then .shared else s.pol }

/-- A state with another policy latched for the command in progress. -/
def underPolicy (p : Policy) (s : State) : State := { s with pol := p }

/-- A state that differs only in its ports and in the model's own record of them. -/
def sameBlock (s t : State) : Prop :=
  t = { s with
    resetReq := t.resetReq, callers := t.callers, writeAns := t.writeAns, readAns := t.readAns
    delayAns := t.delayAns, trace := t.trace, draws := t.draws }

end Sys2Proof.Safety
end

