-- ==== Sys2Proof/Certificates/Slice0/Obligations.lean ====
section
/-! DEFINITION. The statements for the provers. Each docstring names the rule of spec/ it formalises. -/

open Sys2Proof Sys2Proof.Machine Sys2Proof.Safety

/-! ## Selecting and decoding an instruction -/

/-- Where the phase takes an instruction word that decodes to an instruction, the step is that
instruction's `exec`, in the state `fetch` hands it (R105, R12). -/
def Obligations.StepRunsDecodedInstruction : Prop :=
  ∀ (s s' : State) (c : Code) (i : Instr),
    s.resetReq = false → s.fetch = .code c s' → decode c = .instr i → step s = exec i s'

/-- R105, with one caller: its first word is accepted, leaves the port and is recorded as `Cmd(w)`;
nothing else changes (the count of free values is the model's own, log entry 2). -/
def Obligations.AcceptanceTakesTheHeldWord : Prop :=
  ∀ (s : State) (w : CmdWord) (ws : List CmdWord),
    s.seq = .idle → s.callers = [w :: ws] →
      s.fetch = .code (.cmd w) { s with
        callers := [ws], draws := s.draws + 1, trace := s.trace ++ [.cmd w] }

/-- R139, R140, whatever the free value: what the port accepts is the first word of one caller, and
the words of the others stay held. -/
def Obligations.AcceptedWordIsHeldBySomeCaller : Prop :=
  ∀ (s s' : State) (c : Code),
    s.seq = .idle → s.fetch = .code c s' →
      ∃ (before after : List (List CmdWord)) (w : CmdWord) (ws : List CmdWord),
        s.callers = before ++ (w :: ws) :: after ∧ c = .cmd w ∧
        s' = { s with
          callers := before ++ ws :: after, draws := s.draws + 1, trace := s.trace ++ [.cmd w] }

/-- R120, R140: an idle block accepts nothing only if no caller holds a word. -/
def Obligations.IdleBlockAcceptsIfAWordIsHeld : Prop :=
  ∀ s : State, s.seq = .idle → (s.fetch = .nothing ↔ ∀ l ∈ s.callers, l = [])

/-- R140: every word a caller holds is among those the port may accept. -/
def Obligations.EveryHeldWordMayBeAccepted : Prop :=
  ∀ (before after : List (List CmdWord)) (w : CmdWord) (ws : List CmdWord),
    (w, before ++ ws :: after) ∈ offers (before ++ (w :: ws) :: after)

/-- R12, R55: TRIG, WAIT and READ take the constant request words of their micro-operations. -/
def Obligations.PhaseSelectsItsMicroOperation : Prop :=
  ∀ s : State,
    (s.seq = .trig → s.fetch = .code (.req 0b0101001110000000000000000#25) s) ∧
    (s.seq = .wait → s.fetch = .code (.req 0b1100000000000000000101000#25) s) ∧
    (s.seq = .read → s.fetch = .code (.req 0b1001001110000000000000100#25) s)

/-- R52, R55: the words of the opcode map, written out, decode to their instructions. -/
def Obligations.WrittenOutWordsDecode : Prop :=
  decode (.cmd 0b0001) = .instr .readTempF ∧
  decode (.cmd 0b0010) = .instr .readTempC ∧
  decode (.cmd 0b0100) = .instr .readHumid ∧
  decode (.cmd 0b0101) = .instr .readTempHumid ∧
  decode (.cmd 0b0111) = .instr .readAll ∧
  decode (.cmd 0b1000) = .instr (.setPolicy .shared) ∧
  decode (.cmd 0b1001) = .instr (.setPolicy .perQuantity) ∧
  decode (.req 0b0101001110000000000000000) = .instr .trigWrite ∧
  decode (.req 0b1100000000000000000101000) = .instr .wait40 ∧
  decode (.req 0b1001001110000000000000100) = .instr .blkRead

/-- R53: the nine reserved command words select no command. -/
def Obligations.ReservedCommandWordsAreRejected : Prop :=
  ∀ w : CmdWord,
    (w ∈ [0b0000#4, 0b0011#4, 0b0110#4, 0b1010#4, 0b1011#4, 0b1100#4, 0b1101#4, 0b1110#4, 0b1111#4] ↔
      decode (.cmd w) = .reject (.reservedCommand w))

/-- R51 to R55: a word of either format means an instruction exactly when it is that instruction's
encoding; all other words of the 2^4 and the 2^25 mean none. -/
def Obligations.DecodeInvertsEncode : Prop :=
  ∀ (c : Code) (i : Instr), decode c = .instr i ↔ encode i = c

/-- R54, R55: the requests the micro-operations emit, packed, are the words they are encoded as. -/
def Obligations.EmittedRequestsPackToTheirWords : Prop :=
  packRequest (.busWrite 0x27 0x00 0) = 0x0A70000#25 ∧
  packRequest (.delay 40) = 0x1800028#25 ∧
  packRequest (.busRead 0x27 0x00 4) = 0x1270004#25 ∧
  encode .trigWrite = .req (packRequest (.busWrite 0x27 0x00 0)) ∧
  encode .wait40 = .req (packRequest (.delay 40)) ∧
  encode .blkRead = .req (packRequest (.busRead 0x27 0x00 4))

/-! ## The host commands -/

/-- R106 for the five queries with the masks of R52: the next state of each in IDLE, every field. -/
def Obligations.QueryLatchesItsMaskAndStarts : Prop :=
  ∀ (i : Instr) (m : QMask) (s : State),
    (i, m) ∈ [(Instr.readTempF, 0b001#3), (Instr.readTempC, 0b010#3), (Instr.readHumid, 0b100#3),
      (Instr.readTempHumid, 0b101#3), (Instr.readAll, 0b111#3)] →
    s.seq = .idle →
      exec i s = .next { s with
        cmdr := m, pend := m, pol := s.cfgPolicy, err := .none, stat := 0
        vf := false, vc := false, vh := false, rawv := false, seq := .trig }

/-- R115: `set_policy p` is the word 0b100p; in IDLE it configures the policy and answers; every other
field stays. -/
def Obligations.SetPolicyConfiguresAndAnswers : Prop :=
  ∀ p : Policy,
    encode (.setPolicy p) = .cmd (0b100#3 ++ BitVec.ofBool (p == .perQuantity)) ∧
    ∀ s : State, s.seq = .idle →
      exec (.setPolicy p) s = .next { s with
        cfgPolicy := p, trace := s.trace ++ [.resp ⟨.none, 0, p, 0, none, none, none⟩] }

/-- The model's convention, DEDUCED in log entry 7: the spec gives a command no execution outside its
acceptance in IDLE; asked for while BUSY = 1, `exec` answers the same state, as a held word would
leave it. The step never asks for it. -/
def Obligations.BusyBlockHoldsACommand : Prop :=
  ∀ (i : Instr) (w : CmdWord) (s : State), encode i = .cmd w → s.seq ≠ .idle → exec i s = .next s

/-- R38, R140: a step taken while BUSY = 1 takes no word off the port and records no `Cmd`. -/
def Obligations.BusyStepAcceptsNoCommand : Prop :=
  ∀ s t : State, s.resetReq = false → s.seq ≠ .idle → step s = .next t →
    t.callers = s.callers ∧ ∃ es, t.trace = s.trace ++ es ∧ ∀ w, .cmd w ∉ es

/-- R116: a reserved word accepted in IDLE is answered with IllegalCommand and changes nothing beyond
its acceptance. -/
def Obligations.ReservedWordIsAnsweredAndChangesNothing : Prop :=
  ∀ (s s' : State) (w : CmdWord),
    s.resetReq = false → s.seq = .idle → s.fetch = .code (.cmd w) s' →
    w ∈ [0b0000#4, 0b0011#4, 0b0110#4, 0b1010#4, 0b1011#4, 0b1100#4, 0b1101#4, 0b1110#4, 0b1111#4] →
      step s = .next { s' with
        trace := s'.trace ++ [.resp ⟨.illegalCmd, 0, s.cfgPolicy, 0, none, none, none⟩] }

/-! ## The micro-operations -/

/-- R71, R126: the trigger is issued; a zero status goes on to WAIT; a non-zero status raises
WriteFailure with it; without an answer the block stays. -/
def Obligations.TrigWriteFollowsItsRule : Prop :=
  ∀ s : State, s.seq = .trig →
    (s.awaiting = false →
      exec .trigWrite s = .next { s with
        rawv := false, awaiting := true
        trace := s.trace ++ [.request (.busWrite 0x27 0x00 0)] }) ∧
    (∀ st rest, s.awaiting = true → s.writeAns = st :: rest → st = 0 →
      exec .trigWrite s = .next { s with
        awaiting := false, writeAns := rest, trace := s.trace ++ [.writeAns st], seq := .wait }) ∧
    (∀ st rest, s.awaiting = true → s.writeAns = st :: rest → st ≠ 0 →
      exec .trigWrite s = .next { s with
        awaiting := false, writeAns := rest, trace := s.trace ++ [.writeAns st]
        err := .writeFail, stat := st, vf := false, vc := false, vh := false
        pend := 0, rawv := false, seq := .resp }) ∧
    (s.awaiting = true → s.writeAns = [] → exec .trigWrite s = .next s)

/-- R72: the word; the delay is issued; `DelayDone` goes on to READ; until it comes the block stays. -/
def Obligations.Wait40FollowsItsRule : Prop :=
  encode .wait40 = .req 0x1800028#25 ∧
  ∀ s : State, s.seq = .wait →
    (s.awaiting = false →
      exec .wait40 s = .next { s with
        awaiting := true, trace := s.trace ++ [.request (.delay 40)] }) ∧
    (∀ n, s.awaiting = true → s.delayAns = n + 1 →
      exec .wait40 s = .next { s with
        awaiting := false, delayAns := n, trace := s.trace ++ [.delayDone], seq := .read }) ∧
    (s.awaiting = true → s.delayAns = 0 → exec .wait40 s = .next s)

/-- R73, R74, R127, R128: the read is issued; fewer than 4 bytes raise ReadFailure with
IO_ERROR_CODE whatever the status; 4 bytes with a non-zero status raise it with that status; 4 bytes
with status 0 are stored unchanged in the order received; without an answer the block stays. -/
def Obligations.BlkReadFollowsItsRule : Prop :=
  ∀ s : State, s.seq = .read →
    (s.awaiting = false →
      exec .blkRead s = .next { s with
        awaiting := true, trace := s.trace ++ [.request (.busRead 0x27 0x00 4)] }) ∧
    (∀ w rest, s.awaiting = true → s.readAns = w :: rest →
      (unpackReadAnswer w).data.length < 4 →
      exec .blkRead s = .next { s with
        awaiting := false, readAns := rest, trace := s.trace ++ [.readAns (unpackReadAnswer w)]
        err := .readFail, stat := Config.ioErrorCode, vf := false, vc := false, vh := false
        pend := 0, rawv := false, seq := .resp }) ∧
    (∀ w rest d0 d1 d2 d3 st, s.awaiting = true → s.readAns = w :: rest →
      unpackReadAnswer w = ⟨[d0, d1, d2, d3], st⟩ → st ≠ 0 →
      exec .blkRead s = .next { s with
        awaiting := false, readAns := rest, trace := s.trace ++ [.readAns ⟨[d0, d1, d2, d3], st⟩]
        err := .readFail, stat := st, vf := false, vc := false, vh := false
        pend := 0, rawv := false, seq := .resp }) ∧
    (∀ w rest d0 d1 d2 d3, s.awaiting = true → s.readAns = w :: rest →
      unpackReadAnswer w = ⟨[d0, d1, d2, d3], 0⟩ →
      exec .blkRead s = .next { s with
        awaiting := false, readAns := rest, trace := s.trace ++ [.readAns ⟨[d0, d1, d2, d3], 0⟩]
        b := ⟨d0, d1, d2, d3⟩, rawv := true, seq := .dec }) ∧
    (s.awaiting = true → s.readAns = [] → exec .blkRead s = .next s)

/-- R40, the model's reading (log entry 7): a micro-operation stops by name in any phase but its own. -/
def Obligations.MicroOperationStopsOutsideItsPhase : Prop :=
  ∀ s : State,
    (s.seq ≠ .trig → exec .trigWrite s = .refused .outOfPhase) ∧
    (s.seq ≠ .wait → exec .wait40 s = .refused .outOfPhase) ∧
    (s.seq ≠ .read → exec .blkRead s = .refused .outOfPhase)

/-- R40, R141: a request that is never answered holds the block in its phase for ever. That such a step
answers the same state is the model's form of waiting (log entry 4). -/
def Obligations.UnansweredRequestHoldsTheBlock : Prop :=
  ∀ (s : State) (k : Nat), s.resetReq = false → s.awaiting = true →
    (s.seq = .trig ∧ s.writeAns = [] ∨ s.seq = .wait ∧ s.delayAns = 0 ∨ s.seq = .read ∧ s.readAns = []) →
      Sys2Proof.core.run k s = .next s

/-! ## The dispatch and response steps -/

/-- R107: the dispatch step under SHARED, every field; after it, in a state that meets the invariant,
the valid bits are the command's mask. -/
def Obligations.SharedDispatchDeliversEveryRequestedValue : Prop :=
  (∀ s : State, s.resetReq = false → s.seq = .dec → s.pol = .shared → s.rawv = true →
    step s = .next { s with
      outTF := if s.pend.getLsbD 0 then BitVec.ofInt 16 (decodeSample s.b).tf else s.outTF
      vf := s.pend.getLsbD 0 || s.vf
      outTC := if s.pend.getLsbD 1 then BitVec.ofInt 16 (decodeSample s.b).tc else s.outTC
      vc := s.pend.getLsbD 1 || s.vc
      outH := if s.pend.getLsbD 2 then BitVec.ofNat 16 (decodeSample s.b).h else s.outH
      vh := s.pend.getLsbD 2 || s.vh
      pend := 0, rawv := false, seq := .resp }) ∧
  (∀ s t : State, Inv s → s.resetReq = false → s.seq = .dec → s.pol = .shared → step s = .next t →
    BitVec.ofBool t.vh ++ BitVec.ofBool t.vc ++ BitVec.ofBool t.vf = t.cmdr)

/-- R108: the dispatch step under PER_QUANTITY: F before C before H, one quantity a step, and another
acquisition while one is pending. -/
def Obligations.PerQuantityDispatchDeliversTheLowest : Prop :=
  ∀ s : State, s.resetReq = false → s.seq = .dec → s.pol = .perQuantity → s.rawv = true →
    (s.pend.getLsbD 0 = true → step s = .next { s with
      outTF := BitVec.ofInt 16 (decodeSample s.b).tf, vf := true
      pend := s.pend &&& 0b110, rawv := false
      seq := if s.pend &&& 0b110 = 0 then .resp else .trig }) ∧
    (s.pend.getLsbD 0 = false → s.pend.getLsbD 1 = true → step s = .next { s with
      outTC := BitVec.ofInt 16 (decodeSample s.b).tc, vc := true
      pend := s.pend &&& 0b101, rawv := false
      seq := if s.pend &&& 0b101 = 0 then .resp else .trig }) ∧
    (s.pend = 0b100 → step s = .next { s with
      outH := BitVec.ofNat 16 (decodeSample s.b).h, vh := true
      pend := 0, rawv := false, seq := .resp })

/-- R109: the response step, every field. -/
def Obligations.ResponseStepDeliversAndClears : Prop :=
  ∀ s : State, s.resetReq = false → s.seq = .resp →
    step s = .next { s with
      trace := s.trace ++ [.resp
        { err := s.err, stat := s.stat, pol := s.pol
          v := BitVec.ofBool s.vh ++ BitVec.ofBool s.vc ++ BitVec.ofBool s.vf
          tf := if s.vf then some s.outTF else none
          tc := if s.vc then some s.outTC else none
          h := if s.vh then some s.outH else none }]
      err := .none, stat := 0, vf := false, vc := false, vh := false
      pend := 0, rawv := false, seq := .idle }

/-- First clause, R10 and spec/93 U14: the dispatch step without a sample is a fault of the model.
Second clause, the model's choice, DEDUCED in log entry 14: under PER_QUANTITY with nothing pending,
outside the precondition of the step, it is a fault too. -/
def Obligations.DispatchStopsOutsideItsPrecondition : Prop :=
  ∀ s : State, s.resetReq = false → s.seq = .dec →
    (s.rawv = false → step s = .fault .sampleNotHeld) ∧
    (s.rawv = true → s.pol = .perQuantity → s.pend = 0 → step s = .fault .nothingPending)

/-! ## The decoder -/

/-- R86, R87: the two fields are {b0[5:0], b1[7:0]} and {b2[7:0], b3[7:2]}. -/
def Obligations.FieldsAreTheirBitSlices : Prop :=
  (∀ b0 b1 : Byte, unpackH b0 b1 = (b0.extractLsb' 0 6 ++ b1).toNat) ∧
  (∀ b2 b3 : Byte, unpackT b2 b3 = (b2 ++ b3.extractLsb' 2 6).toNat)

/-- R85, R88, R89, R90: floor division by 16384, and division by 10 truncating toward zero on both
signs; the decoder is the composition of these, °F taken from the truncated °C. -/
def Obligations.ConversionsTruncate : Prop :=
  (∀ n : Nat, convH n = n * 1000 / 16384) ∧
  (∀ n : Nat, convC n = (n * 1650 / 16384 : Nat) - 400) ∧
  (∀ n : Nat, convF n = (n * 18 / 10 : Nat) + 320) ∧
  (∀ n : Nat, convF (-n) = -(n * 18 / 10 : Nat) + 320) ∧
  (∀ b0 b1 b2 b3 : Byte,
    decodeSample ⟨b0, b1, b2, b3⟩ =
      ⟨convF (convC (unpackT b2 b3)), convC (unpackT b2 b3), convH (unpackH b0 b1)⟩)

/-- R96: the ranges, each bound attained; the output registers hold every value unchanged; each value
is non-decreasing in its raw field. -/
def Obligations.DecoderRangesAndMonotonicity : Prop :=
  (∀ b0 b1 : Byte, unpackH b0 b1 ≤ 16383 ∧ unpackT b0 b1 ≤ 16383) ∧
  (∀ s : RawSample,
    (decodeSample s).h ≤ 999 ∧
    -400 ≤ (decodeSample s).tc ∧ (decodeSample s).tc ≤ 1249 ∧
    -400 ≤ (decodeSample s).tf ∧ (decodeSample s).tf ≤ 2568 ∧
    (sext16 (decodeSample s).tf).toInt = (decodeSample s).tf ∧
    (sext16 (decodeSample s).tc).toInt = (decodeSample s).tc ∧
    (zext16 (decodeSample s).h).toNat = (decodeSample s).h) ∧
  decodeSample ⟨0, 0, 0, 0⟩ = ⟨-400, -400, 0⟩ ∧
  decodeSample ⟨0x3F, 0xFF, 0xFF, 0xFC⟩ = ⟨2568, 1249, 999⟩ ∧
  unpackH 0x3F 0xFF = 16383 ∧ unpackT 0xFF 0xFC = 16383 ∧ unpackH 0 0 = 0 ∧ unpackT 0 0 = 0 ∧
  (∀ m n : Nat, m ≤ n → convH m ≤ convH n ∧ convC m ≤ convC n ∧ convF (convC m) ≤ convF (convC n))

/-- R92: the top two bits of byte0 and the low two bits of byte3 never influence any output; h depends
on b0[5:0] and b1 only, tc and tf on b2 and b3[7:2] only. -/
def Obligations.DiscardedBitsNeverMatter : Prop :=
  (∀ (b0 b1 b2 b3 : Byte) (x y : BitVec 2),
    decodeSample ⟨b0, b1, b2, b3⟩ =
      decodeSample ⟨x ++ b0.extractLsb' 0 6, b1, b2, b3.extractLsb' 2 6 ++ y⟩) ∧
  (∀ s t : RawSample, s.b0.extractLsb' 0 6 = t.b0.extractLsb' 0 6 → s.b1 = t.b1 →
    (decodeSample s).h = (decodeSample t).h) ∧
  (∀ s t : RawSample, s.b2 = t.b2 → s.b3.extractLsb' 2 6 = t.b3.extractLsb' 2 6 →
    (decodeSample s).tc = (decodeSample t).tc ∧ (decodeSample s).tf = (decodeSample t).tf)

/-! ## The packed formats -/

/-- R58: a response record and its 86-bit word are the same information. -/
def Obligations.ResponseWordRoundTrip : Prop :=
  ∀ r : Response, r.wf = true → unpackResponse (packResponse r) = r

/-- R58, R16, R125: the fields of the packed response stand at their bits, with the codes of ERR and
POL written out; an absent value is driven as 0. -/
def Obligations.ResponseFieldsStandAtTheirBits : Prop :=
  ∀ r : Response,
    (packResponse r).extractLsb' 84 2 =
      (match r.err with
      | .none => 0#2
      | .writeFail => 1#2
      | .readFail => 2#2
      | .illegalCmd => 3#2) ∧
    (packResponse r).getLsbD 83 =
      (match r.pol with
      | .shared => false
      | .perQuantity => true) ∧
    (packResponse r).extractLsb' 80 3 = r.v ∧
    (packResponse r).extractLsb' 48 32 = r.stat ∧
    (packResponse r).extractLsb' 32 16 = r.tf.getD 0 ∧
    (packResponse r).extractLsb' 16 16 = r.tc.getD 0 ∧
    (packResponse r).extractLsb' 0 16 = r.h.getD 0

/-- R57: an answer of the transport's contract comes back from its 67-bit word. -/
def Obligations.ReadAnswerWordRoundTrip : Prop :=
  ∀ a : ReadAnswer, a.wf = true → unpackReadAnswer (packReadAnswer a) = a

/-- R57: the fields of an answer word; of D0..D3 only the first N carry a value, and the codes 5, 6
and 7 of N are read as 4. -/
def Obligations.ReadAnswerFieldsStandAtTheirBits : Prop :=
  ∀ w : ReadWord,
    (unpackReadAnswer w).status = w.extractLsb' 0 32 ∧
    (unpackReadAnswer w).data.length = min (w.extractLsb' 64 3).toNat 4 ∧
    (unpackReadAnswer w).data <+:
      [w.extractLsb' 56 8, w.extractLsb' 48 8, w.extractLsb' 40 8, w.extractLsb' 32 8]

/-! ## Reset and the other agents -/

/-- R24: the reset values the spec gives; the block does nothing until a command word arrives. -/
def Obligations.ResetLeavesTheIdleState : Prop :=
  State.reset.seq = .idle ∧ State.reset.pend = 0b000 ∧ State.reset.cmdr = 0b000 ∧
  State.reset.pol = .shared ∧ State.reset.rawv = false ∧
  State.reset.vf = false ∧ State.reset.vc = false ∧ State.reset.vh = false ∧
  State.reset.err = .none ∧ State.reset.stat = 0 ∧ State.reset.cfgPolicy = .shared ∧
  State.reset.awaiting = false ∧ State.reset.trace = [] ∧ step State.reset = .next State.reset

/-- R145, R146: a step with reset asserted puts every register at its reset value whatever the phase,
emits no response, and ignores the answer to the outstanding request. The model's own choices: the
callers keep their words, the later answers, the trace and the count of free values stay, and the
trace gets a mark (DESIGN CHOICE, log entry 6; the spec does not say what becomes of held words);
the bits left in B and OUT are 0 (DESIGN CHOICE, log entry 3). -/
def Obligations.ResetAbandonsWhatIsInProgress : Prop :=
  ∀ s : State, s.resetReq = true →
    step s = .next { State.reset with
      callers := s.callers, draws := s.draws, trace := s.trace ++ [.reset]
      writeAns := if s.awaiting = true ∧ s.seq = .trig then s.writeAns.tail else s.writeAns
      readAns := if s.awaiting = true ∧ s.seq = .read then s.readAns.tail else s.readAns
      delayAns := if s.awaiting = true ∧ s.seq = .wait then s.delayAns - 1 else s.delayAns }

/-- First clause, R8: no input of another agent changes the block's registers, the trace or the free
values. Second clause, the model's convention, DEDUCED in log entry 15: an answer to a request a reset
has abandoned is an input of its own, told apart by the agents outside, and changes nothing. -/
def Obligations.InputsReachThePortsOnly : Prop :=
  (∀ (i : Input) (s : State),
    sameBlock s (s.input i) ∧ (s.input i).trace = s.trace ∧ (s.input i).draws = s.draws) ∧
  (∀ s : State, s.input .lateAnswer = s)

/-! ## Invariants of every step -/

/-- R23, R24: the reset state meets the invariants. -/
def Obligations.ResetMeetsTheInvariants : Prop :=
  Inv State.reset ∧ InOrder State.reset ∧ Counted State.reset

/-- Every step keeps the invariant of the registers, from every state that meets it. -/
def Obligations.StepKeepsTheRegisterInvariant : Prop :=
  ∀ s t : State, Inv s → step s = .next t → Inv t

/-- Inputs of the other agents keep the three invariants. -/
def Obligations.InputsKeepTheInvariants : Prop :=
  ∀ (i : Input) (s : State),
    (Inv s → Inv (s.input i)) ∧ (InOrder s → InOrder (s.input i)) ∧ (Counted s → Counted (s.input i))

/-- R36, R38, R70: every step keeps the trace a sequence of commands, each with its acquisitions in
the strict order and its one response. -/
def Obligations.StepKeepsTheEventOrder : Prop :=
  ∀ s t : State, Inv s → InOrder s → step s = .next t → InOrder t

/-- R117: every step keeps the count of a command's `BusWrite` events equal to what its registers say. -/
def Obligations.StepKeepsTheAcquisitionCount : Prop :=
  ∀ s t : State, Inv s → Counted s → step s = .next t → Counted t

/-- R10, R120, spec/93 U12, U14: a state that meets the invariant always has a next state, so neither
fault nor refusal; and no state at all is refused. -/
def Obligations.InvariantStatesAlwaysStep : Prop :=
  (∀ s : State, Inv s → ∃ t, step s = .next t) ∧ (∀ (s : State) (r : Refusal), step s ≠ .refused r)

/-- Every state a run reaches, with any inputs in any order, meets the invariants. -/
def Obligations.ReachableStatesMeetTheInvariants : Prop :=
  ∀ s : State, Reachable s → Inv s ∧ InOrder s ∧ Counted s

/-- R117 in every run: when a query is about to be answered without error, it has performed one
acquisition under SHARED and one for each requested quantity under PER_QUANTITY, and its response
carries exactly the requested quantities. -/
def Obligations.SuccessfulQueryPerformsItsAcquisitions : Prop :=
  ∀ s : State, Reachable s → s.seq = .resp → s.err = .none →
    writesSinceCmd s.trace = acquisitionsDue s.pol (maskCount s.cmdr) ∧ s.response.v = s.cmdr

/-- R119, R129 in every run: when a command is about to be answered with an error, the response carries
no value, its kind is a write or a read failure, and its status is not 0. -/
def Obligations.ErrorResponseCarriesNoValue : Prop :=
  ∀ s : State, Reachable s → s.seq = .resp → s.err ≠ .none →
    (s.response.err = .writeFail ∨ s.response.err = .readFail) ∧ s.response.stat ≠ 0 ∧
    s.response.v = 0 ∧ s.response.tf = none ∧ s.response.tc = none ∧ s.response.h = none

/-- R55, R58, R77: every request a run emits is one of the three of R55, and every response it emits is
well formed, so that its packed word says all of it. -/
def Obligations.EmittedRecordsAreWellFormed : Prop :=
  ∀ s : State, Reachable s →
    (∀ r, .request r ∈ s.trace → r.wf = true) ∧ (∀ r, .resp r ∈ s.trace → r.wf = true)

/-! ## Frames over all steps -/

/-- R120: SEQ changes only as the table of phase transitions says. -/
def Obligations.PhaseChangesAsTabulated : Prop :=
  ∀ s t : State, s.resetReq = false → step s = .next t → t.seq = tabulatedNext s

/-- R8, R35: a step only appends to the trace, at most two events. -/
def Obligations.StepOnlyAppendsToTheTrace : Prop :=
  ∀ s t : State, step s = .next t → ∃ es, t.trace = s.trace ++ es ∧ es.length ≤ 2

/-- R18, R39: but for reset, CFG.POLICY changes only by a `set_policy` accepted in IDLE. -/
def Obligations.PolicyChangesOnlyBySetPolicy : Prop :=
  ∀ s t : State, s.resetReq = false → step s = .next t → t.cfgPolicy ≠ s.cfgPolicy →
    s.seq = .idle ∧ ∃ w s', s.fetch = .code (.cmd w) s' ∧ decode (.cmd w) = .instr (.setPolicy t.cfgPolicy)

/-- R10: but for reset, B[0..3] change only at the successful end of `blk_read`, which sets RAWV. -/
def Obligations.SampleIsWrittenByBlkReadOnly : Prop :=
  ∀ s t : State, s.resetReq = false → step s = .next t → (t.b ≠ s.b ∨ s.rawv = false ∧ t.rawv = true) →
    s.seq = .read ∧ s.awaiting = true ∧ t.rawv = true ∧ t.seq = .dec

/-- R17: but for reset, an output register or its flag is set only by the dispatch step. -/
def Obligations.OutputsAreWrittenByDispatchOnly : Prop :=
  ∀ s t : State, s.resetReq = false → step s = .next t →
    (t.outTF ≠ s.outTF ∨ t.outTC ≠ s.outTC ∨ t.outH ≠ s.outH ∨
      s.vf = false ∧ t.vf = true ∨ s.vc = false ∧ t.vc = true ∨ s.vh = false ∧ t.vh = true) →
    s.seq = .dec

/-- R14: but for reset, CMDR and POL change only when a query is accepted in IDLE, and POL becomes the
policy configured then. -/
def Obligations.LatchesChangeOnlyAtAcceptance : Prop :=
  ∀ s t : State, s.resetReq = false → step s = .next t → (t.cmdr ≠ s.cmdr ∨ t.pol ≠ s.pol) →
    s.seq = .idle ∧ t.seq = .trig ∧ t.pol = s.cfgPolicy ∧ t.cmdr ∈ queryMasks

/-- R125, R129: an error is recorded only by the answer to a trigger write or a block read; it drops
every value and every pending quantity and goes to the response step. -/
def Obligations.ErrorsComeFromAnswersOnly : Prop :=
  ∀ s t : State, s.resetReq = false → step s = .next t → s.err = .none → t.err ≠ .none →
    (s.seq = .trig ∧ t.err = .writeFail ∨ s.seq = .read ∧ t.err = .readFail) ∧
    s.awaiting = true ∧ t.awaiting = false ∧ t.stat ≠ 0 ∧ t.seq = .resp ∧ t.pend = 0 ∧
    t.vf = false ∧ t.vc = false ∧ t.vh = false ∧ t.rawv = false ∧
    t.b = s.b ∧ t.cmdr = s.cmdr ∧ t.pol = s.pol ∧ t.cfgPolicy = s.cfgPolicy

/-- R10, R14, R17, R23: what no rule reads influences nothing: a step commutes with erasing it. -/
def Obligations.UnreadRegistersNeverMatter : Prop :=
  ∀ s : State, mapNext visible (step s) = mapNext visible (step (visible s))

/-- R121: while one quantity is asked for, the two policies take the same steps, and their responses
differ in the POL field only. -/
def Obligations.SingleQuantityIgnoresThePolicy : Prop :=
  ∀ s : State, s.seq ≠ .idle → (s.seq = .dec → maskCount s.pend = 1) →
    (s.seq ≠ .resp →
      mapNext (underPolicy .shared) (step (underPolicy .perQuantity s)) = step (underPolicy .shared s)) ∧
    (∀ p, (underPolicy p s).response = { s.response with pol := p })

/-! ## Whole commands -/

/-- R70, R107, R109, R110 to R114: under SHARED, from every idle state that meets the invariant, a query
whose requests succeed emits exactly the events of one acquisition and the response with the decoded
values it asked for, and the block is idle again. That this takes nine steps is the model's (DESIGN
CHOICE, log entry 5: the two halves of a micro-operation are two steps). -/
def Obligations.SharedQueryRunsToItsResponse : Prop :=
  ∀ (s : State) (w : CmdWord) (ws : List CmdWord) (ans : List Status) (a : ReadWord)
    (as : List ReadWord) (d : Nat) (x : RawSample),
    Inv s → s.resetReq = false → s.seq = .idle → s.cfgPolicy = .shared → s.callers = [w :: ws] →
    w ∈ [0b0001#4, 0b0010#4, 0b0100#4, 0b0101#4, 0b0111#4] →
    s.writeAns = 0 :: ans → s.delayAns = d + 1 → s.readAns = a :: as →
    unpackReadAnswer a = ⟨[x.b0, x.b1, x.b2, x.b3], 0⟩ →
    ∃ t, Sys2Proof.core.run 9 s = .next t ∧ t.seq = .idle ∧ t.callers = [ws] ∧
      t.writeAns = ans ∧ t.delayAns = d ∧ t.readAns = as ∧ t.cfgPolicy = .shared ∧
      t.trace = s.trace ++
        [.cmd w, .request (.busWrite 0x27 0x00 0), .writeAns 0, .request (.delay 40), .delayDone,
          .request (.busRead 0x27 0x00 4), .readAns ⟨[x.b0, x.b1, x.b2, x.b3], 0⟩,
          .resp
            { err := .none, stat := 0, pol := .shared, v := w.extractLsb' 0 3
              tf := if w.getLsbD 0 then some (BitVec.ofInt 16 (decodeSample x).tf) else none
              tc := if w.getLsbD 1 then some (BitVec.ofInt 16 (decodeSample x).tc) else none
              h := if w.getLsbD 2 then some (BitVec.ofNat 16 (decodeSample x).h) else none }]

/-- R108, R114, R117, R118: under PER_QUANTITY a `read_all` whose requests succeed performs three
complete acquisitions; °F comes from the first sample, °C from the second, %RH from the third. That
this takes 23 steps is the model's (DESIGN CHOICE, log entry 5). The other queries are in
`PerQuantityQueryRunsToItsResponse`. -/
def Obligations.PerQuantityReadAllRunsToItsResponse : Prop :=
  ∀ (s : State) (ws : List CmdWord) (ans : List Status) (a1 a2 a3 : ReadWord) (as : List ReadWord)
    (d : Nat) (x y z : RawSample),
    Inv s → s.resetReq = false → s.seq = .idle → s.cfgPolicy = .perQuantity →
    s.callers = [0b0111#4 :: ws] →
    s.writeAns = 0 :: 0 :: 0 :: ans → s.delayAns = d + 3 → s.readAns = a1 :: a2 :: a3 :: as →
    unpackReadAnswer a1 = ⟨[x.b0, x.b1, x.b2, x.b3], 0⟩ →
    unpackReadAnswer a2 = ⟨[y.b0, y.b1, y.b2, y.b3], 0⟩ →
    unpackReadAnswer a3 = ⟨[z.b0, z.b1, z.b2, z.b3], 0⟩ →
    ∃ t, Sys2Proof.core.run 23 s = .next t ∧ t.seq = .idle ∧ t.callers = [ws] ∧
      t.writeAns = ans ∧ t.delayAns = d ∧ t.readAns = as ∧
      t.trace = s.trace ++
        ([.cmd 0b0111#4] ++
        ([x, y, z].flatMap fun r =>
          [.request (.busWrite 0x27 0x00 0), .writeAns 0, .request (.delay 40), .delayDone,
            .request (.busRead 0x27 0x00 4), .readAns ⟨[r.b0, r.b1, r.b2, r.b3], 0⟩]) ++
        [.resp ⟨.none, 0, .perQuantity, 0b111, some (BitVec.ofInt 16 (decodeSample x).tf),
          some (BitVec.ofInt 16 (decodeSample y).tc), some (BitVec.ofNat 16 (decodeSample z).h)⟩])

/-- R71, R119: a query whose trigger write fails performs neither the delay nor the read; its response
carries the status and nothing else. That this takes four steps is the model's (DESIGN CHOICE, log
entry 5). -/
def Obligations.FailedTriggerEndsTheCommand : Prop :=
  ∀ (s : State) (w : CmdWord) (ws : List CmdWord) (st : Status) (ans : List Status),
    s.resetReq = false → s.seq = .idle → s.awaiting = false → s.callers = [w :: ws] →
    w ∈ [0b0001#4, 0b0010#4, 0b0100#4, 0b0101#4, 0b0111#4] →
    s.writeAns = st :: ans → st ≠ 0 →
    ∃ t, Sys2Proof.core.run 4 s = .next t ∧ t.seq = .idle ∧ t.callers = [ws] ∧
      t.trace = s.trace ++
        [.cmd w, .request (.busWrite 0x27 0x00 0), .writeAns st,
          .resp ⟨.writeFail, st, s.cfgPolicy, 0, none, none, none⟩]

/-- R119, R129: a failing answer at any acquisition of a command, with any values already held, is
followed by the response with the error and no value. That this takes two steps is the model's (DESIGN
CHOICE, log entry 5); the status of a short read is the parameter of log entry 1. -/
def Obligations.LaterFailureDropsEarlierValues : Prop :=
  ∀ s : State, s.resetReq = false → s.awaiting = true →
    (∀ st ans, s.seq = .trig → s.writeAns = st :: ans → st ≠ 0 →
      ∃ t, Sys2Proof.core.run 2 s = .next t ∧ t.seq = .idle ∧
        t.trace = s.trace ++ [.writeAns st, .resp ⟨.writeFail, st, s.pol, 0, none, none, none⟩]) ∧
    (∀ w as, s.seq = .read → s.readAns = w :: as → readCount w < 4 →
      ∃ t, Sys2Proof.core.run 2 s = .next t ∧ t.seq = .idle ∧
        t.trace = s.trace ++ [.readAns (unpackReadAnswer w),
          .resp ⟨.readFail, Config.ioErrorCode, s.pol, 0, none, none, none⟩]) ∧
    (∀ w as, s.seq = .read → s.readAns = w :: as → readCount w = 4 → w.extractLsb' 0 32 ≠ 0 →
      ∃ t, Sys2Proof.core.run 2 s = .next t ∧ t.seq = .idle ∧
        t.trace = s.trace ++ [.readAns (unpackReadAnswer w),
          .resp ⟨.readFail, w.extractLsb' 0 32, s.pol, 0, none, none, none⟩])

/-- R120, R141: a command in progress whose requests are all answered, however they are answered, is
over after at most three acquisitions. That these are at most 22 steps is the model's (DESIGN CHOICE,
log entry 5). -/
def Obligations.AnsweredCommandReturnsToIdle : Prop :=
  ∀ s : State, Inv s → s.resetReq = false → s.seq ≠ .idle →
    3 ≤ s.writeAns.length → 3 ≤ s.delayAns → 3 ≤ s.readAns.length →
    ∃ k t, k ≤ 22 ∧ Sys2Proof.core.run k s = .next t ∧ t.seq = .idle

/-- R108, R110 to R113, R117, R118: under PER_QUANTITY, the queries beside `read_all`, whose requests
succeed. A query for one quantity performs one acquisition; `read_temp_humid` performs two complete
ones, °F from the first sample and %RH from the second. That these take 9 and 16 steps is the model's
(DESIGN CHOICE, log entry 5). -/
def Obligations.PerQuantityQueryRunsToItsResponse : Prop :=
  ∀ (s : State) (ws : List CmdWord) (ans : List Status) (as : List ReadWord) (d : Nat) (x y : RawSample),
    Inv s → s.resetReq = false → s.seq = .idle → s.cfgPolicy = .perQuantity →
    (∀ (w : CmdWord) (a : ReadWord), w ∈ [0b0001#4, 0b0010#4, 0b0100#4] →
      s.callers = [w :: ws] →
      s.writeAns = 0 :: ans → s.delayAns = d + 1 → s.readAns = a :: as →
      unpackReadAnswer a = ⟨[x.b0, x.b1, x.b2, x.b3], 0⟩ →
      ∃ t, Sys2Proof.core.run 9 s = .next t ∧ t.seq = .idle ∧ t.callers = [ws] ∧
        t.writeAns = ans ∧ t.delayAns = d ∧ t.readAns = as ∧ t.cfgPolicy = .perQuantity ∧
        t.trace = s.trace ++
          [.cmd w, .request (.busWrite 0x27 0x00 0), .writeAns 0, .request (.delay 40), .delayDone,
            .request (.busRead 0x27 0x00 4), .readAns ⟨[x.b0, x.b1, x.b2, x.b3], 0⟩,
            .resp
              { err := .none, stat := 0, pol := .perQuantity, v := w.extractLsb' 0 3
                tf := if w.getLsbD 0 then some (BitVec.ofInt 16 (decodeSample x).tf) else none
                tc := if w.getLsbD 1 then some (BitVec.ofInt 16 (decodeSample x).tc) else none
                h := if w.getLsbD 2 then some (BitVec.ofNat 16 (decodeSample x).h) else none }]) ∧
    (∀ a1 a2 : ReadWord, s.callers = [0b0101#4 :: ws] →
      s.writeAns = 0 :: 0 :: ans → s.delayAns = d + 2 → s.readAns = a1 :: a2 :: as →
      unpackReadAnswer a1 = ⟨[x.b0, x.b1, x.b2, x.b3], 0⟩ →
      unpackReadAnswer a2 = ⟨[y.b0, y.b1, y.b2, y.b3], 0⟩ →
      ∃ t, Sys2Proof.core.run 16 s = .next t ∧ t.seq = .idle ∧ t.callers = [ws] ∧
        t.writeAns = ans ∧ t.delayAns = d ∧ t.readAns = as ∧ t.cfgPolicy = .perQuantity ∧
        t.trace = s.trace ++
          [.cmd 0b0101#4,
            .request (.busWrite 0x27 0x00 0), .writeAns 0, .request (.delay 40), .delayDone,
            .request (.busRead 0x27 0x00 4), .readAns ⟨[x.b0, x.b1, x.b2, x.b3], 0⟩,
            .request (.busWrite 0x27 0x00 0), .writeAns 0, .request (.delay 40), .delayDone,
            .request (.busRead 0x27 0x00 4), .readAns ⟨[y.b0, y.b1, y.b2, y.b3], 0⟩,
            .resp ⟨.none, 0, .perQuantity, 0b101, some (BitVec.ofInt 16 (decodeSample x).tf), none,
              some (BitVec.ofNat 16 (decodeSample y).h)⟩])
end

