-- ==== Sys2Proof/Laws/Formats.lean ====
section
/-! SUPPORT. The bits of the packed words (spec/30_encoding.md R54, R57, R58), each formula said once. -/

namespace Sys2Proof.Machine

/-- Every bit of a packed response (R58). -/
theorem packResponse_getLsbD (r : Response) (i : Nat) :
    (packResponse r).getLsbD i =
      if i < 16 then (outField r.h).getLsbD i
      else if i < 32 then (outField r.tc).getLsbD (i - 16)
      else if i < 48 then (outField r.tf).getLsbD (i - 32)
      else if i < 80 then r.stat.getLsbD (i - 48)
      else if i < 83 then r.v.getLsbD (i - 80)
      else if i < 84 then (BitVec.ofBool r.pol.bit).getLsbD (i - 83)
      else (errCode r.err).getLsbD (i - 84) := by
  unfold packResponse
  iterate 6 rw [BitVec.getLsbD_append]
  simp only [Nat.sub_sub]
  repeat' split
  all_goals first | omega | rfl

/-- Every bit of a packed read answer (R57). -/
theorem packReadAnswer_getLsbD (a : ReadAnswer) (i : Nat) :
    (packReadAnswer a).getLsbD i =
      if i < 32 then a.status.getLsbD i
      else if i < 40 then (answerByte a 3).getLsbD (i - 32)
      else if i < 48 then (answerByte a 2).getLsbD (i - 40)
      else if i < 56 then (answerByte a 1).getLsbD (i - 48)
      else if i < 64 then (answerByte a 0).getLsbD (i - 56)
      else (BitVec.ofNat 3 a.data.length).getLsbD (i - 64) := by
  unfold packReadAnswer
  iterate 5 rw [BitVec.getLsbD_append]
  simp only [Nat.sub_sub]
  repeat' split
  all_goals first | omega | rfl

/-- Every bit of a request word (R54). -/
theorem reqWord_getLsbD (op : BitVec 2) (dev : BitVec 7) (reg len : Byte) (i : Nat) :
    (reqWord op dev reg len).getLsbD i =
      if i < 8 then len.getLsbD i
      else if i < 16 then reg.getLsbD (i - 8)
      else if i < 23 then dev.getLsbD (i - 16)
      else op.getLsbD (i - 23) := by
  unfold reqWord
  iterate 3 rw [BitVec.getLsbD_append]
  simp only [Nat.sub_sub]
  repeat' split
  all_goals first | omega | rfl

/-- A read answer carries as many bytes as its count says (R57). -/
theorem unpackReadAnswer_length (w : ReadWord) : (unpackReadAnswer w).data.length = readCount w := by
  simp [unpackReadAnswer, readCount]

end Sys2Proof.Machine
end

