-- ==== Sys2Proof/Laws/State.lean ====
section
/-! SUPPORT. For each update of the state, what every field is after it. -/

namespace Sys2Proof.Machine

/-! ## emit -/

@[simp] theorem State.emit_b (s : State) (e : Event) : (s.emit e).b = s.b := rfl
@[simp] theorem State.emit_rawv (s : State) (e : Event) : (s.emit e).rawv = s.rawv := rfl
@[simp] theorem State.emit_seq (s : State) (e : Event) : (s.emit e).seq = s.seq := rfl
@[simp] theorem State.emit_pend (s : State) (e : Event) : (s.emit e).pend = s.pend := rfl
@[simp] theorem State.emit_cmdr (s : State) (e : Event) : (s.emit e).cmdr = s.cmdr := rfl
@[simp] theorem State.emit_pol (s : State) (e : Event) : (s.emit e).pol = s.pol := rfl
@[simp] theorem State.emit_vf (s : State) (e : Event) : (s.emit e).vf = s.vf := rfl
@[simp] theorem State.emit_vc (s : State) (e : Event) : (s.emit e).vc = s.vc := rfl
@[simp] theorem State.emit_vh (s : State) (e : Event) : (s.emit e).vh = s.vh := rfl
@[simp] theorem State.emit_err (s : State) (e : Event) : (s.emit e).err = s.err := rfl
@[simp] theorem State.emit_stat (s : State) (e : Event) : (s.emit e).stat = s.stat := rfl
@[simp] theorem State.emit_outTF (s : State) (e : Event) : (s.emit e).outTF = s.outTF := rfl
@[simp] theorem State.emit_outTC (s : State) (e : Event) : (s.emit e).outTC = s.outTC := rfl
@[simp] theorem State.emit_outH (s : State) (e : Event) : (s.emit e).outH = s.outH := rfl
@[simp] theorem State.emit_cfgPolicy (s : State) (e : Event) : (s.emit e).cfgPolicy = s.cfgPolicy := rfl
@[simp] theorem State.emit_awaiting (s : State) (e : Event) : (s.emit e).awaiting = s.awaiting := rfl
@[simp] theorem State.emit_resetReq (s : State) (e : Event) : (s.emit e).resetReq = s.resetReq := rfl
@[simp] theorem State.emit_callers (s : State) (e : Event) : (s.emit e).callers = s.callers := rfl
@[simp] theorem State.emit_writeAns (s : State) (e : Event) : (s.emit e).writeAns = s.writeAns := rfl
@[simp] theorem State.emit_readAns (s : State) (e : Event) : (s.emit e).readAns = s.readAns := rfl
@[simp] theorem State.emit_delayAns (s : State) (e : Event) : (s.emit e).delayAns = s.delayAns := rfl
@[simp] theorem State.emit_trace (s : State) (e : Event) : (s.emit e).trace = s.trace ++ [e] := rfl
@[simp] theorem State.emit_draws (s : State) (e : Event) : (s.emit e).draws = s.draws := rfl

/-! ## goto -/

@[simp] theorem State.goto_b (s : State) (p : Phase) : (s.goto p).b = s.b := rfl
@[simp] theorem State.goto_rawv (s : State) (p : Phase) : (s.goto p).rawv = s.rawv := rfl
@[simp] theorem State.goto_seq (s : State) (p : Phase) : (s.goto p).seq = p := rfl
@[simp] theorem State.goto_pend (s : State) (p : Phase) : (s.goto p).pend = s.pend := rfl
@[simp] theorem State.goto_cmdr (s : State) (p : Phase) : (s.goto p).cmdr = s.cmdr := rfl
@[simp] theorem State.goto_pol (s : State) (p : Phase) : (s.goto p).pol = s.pol := rfl
@[simp] theorem State.goto_vf (s : State) (p : Phase) : (s.goto p).vf = s.vf := rfl
@[simp] theorem State.goto_vc (s : State) (p : Phase) : (s.goto p).vc = s.vc := rfl
@[simp] theorem State.goto_vh (s : State) (p : Phase) : (s.goto p).vh = s.vh := rfl
@[simp] theorem State.goto_err (s : State) (p : Phase) : (s.goto p).err = s.err := rfl
@[simp] theorem State.goto_stat (s : State) (p : Phase) : (s.goto p).stat = s.stat := rfl
@[simp] theorem State.goto_outTF (s : State) (p : Phase) : (s.goto p).outTF = s.outTF := rfl
@[simp] theorem State.goto_outTC (s : State) (p : Phase) : (s.goto p).outTC = s.outTC := rfl
@[simp] theorem State.goto_outH (s : State) (p : Phase) : (s.goto p).outH = s.outH := rfl
@[simp] theorem State.goto_cfgPolicy (s : State) (p : Phase) : (s.goto p).cfgPolicy = s.cfgPolicy := rfl
@[simp] theorem State.goto_awaiting (s : State) (p : Phase) : (s.goto p).awaiting = s.awaiting := rfl
@[simp] theorem State.goto_resetReq (s : State) (p : Phase) : (s.goto p).resetReq = s.resetReq := rfl
@[simp] theorem State.goto_callers (s : State) (p : Phase) : (s.goto p).callers = s.callers := rfl
@[simp] theorem State.goto_writeAns (s : State) (p : Phase) : (s.goto p).writeAns = s.writeAns := rfl
@[simp] theorem State.goto_readAns (s : State) (p : Phase) : (s.goto p).readAns = s.readAns := rfl
@[simp] theorem State.goto_delayAns (s : State) (p : Phase) : (s.goto p).delayAns = s.delayAns := rfl
@[simp] theorem State.goto_trace (s : State) (p : Phase) : (s.goto p).trace = s.trace := rfl
@[simp] theorem State.goto_draws (s : State) (p : Phase) : (s.goto p).draws = s.draws := rfl

/-! ## issue -/

@[simp] theorem State.issue_b (s : State) (r : Request) : (s.issue r).b = s.b := rfl
@[simp] theorem State.issue_rawv (s : State) (r : Request) : (s.issue r).rawv = s.rawv := rfl
@[simp] theorem State.issue_seq (s : State) (r : Request) : (s.issue r).seq = s.seq := rfl
@[simp] theorem State.issue_pend (s : State) (r : Request) : (s.issue r).pend = s.pend := rfl
@[simp] theorem State.issue_cmdr (s : State) (r : Request) : (s.issue r).cmdr = s.cmdr := rfl
@[simp] theorem State.issue_pol (s : State) (r : Request) : (s.issue r).pol = s.pol := rfl
@[simp] theorem State.issue_vf (s : State) (r : Request) : (s.issue r).vf = s.vf := rfl
@[simp] theorem State.issue_vc (s : State) (r : Request) : (s.issue r).vc = s.vc := rfl
@[simp] theorem State.issue_vh (s : State) (r : Request) : (s.issue r).vh = s.vh := rfl
@[simp] theorem State.issue_err (s : State) (r : Request) : (s.issue r).err = s.err := rfl
@[simp] theorem State.issue_stat (s : State) (r : Request) : (s.issue r).stat = s.stat := rfl
@[simp] theorem State.issue_outTF (s : State) (r : Request) : (s.issue r).outTF = s.outTF := rfl
@[simp] theorem State.issue_outTC (s : State) (r : Request) : (s.issue r).outTC = s.outTC := rfl
@[simp] theorem State.issue_outH (s : State) (r : Request) : (s.issue r).outH = s.outH := rfl
@[simp] theorem State.issue_cfgPolicy (s : State) (r : Request) : (s.issue r).cfgPolicy = s.cfgPolicy := rfl
@[simp] theorem State.issue_awaiting (s : State) (r : Request) : (s.issue r).awaiting = true := rfl
@[simp] theorem State.issue_resetReq (s : State) (r : Request) : (s.issue r).resetReq = s.resetReq := rfl
@[simp] theorem State.issue_callers (s : State) (r : Request) : (s.issue r).callers = s.callers := rfl
@[simp] theorem State.issue_writeAns (s : State) (r : Request) : (s.issue r).writeAns = s.writeAns := rfl
@[simp] theorem State.issue_readAns (s : State) (r : Request) : (s.issue r).readAns = s.readAns := rfl
@[simp] theorem State.issue_delayAns (s : State) (r : Request) : (s.issue r).delayAns = s.delayAns := rfl
@[simp] theorem State.issue_trace (s : State) (r : Request) : (s.issue r).trace = s.trace ++ [.request r] := rfl
@[simp] theorem State.issue_draws (s : State) (r : Request) : (s.issue r).draws = s.draws := rfl

/-! ## takeWriteAns -/

@[simp] theorem State.takeWriteAns_b (s : State) (st : Status) (l : List Status) : (s.takeWriteAns st l).b = s.b := rfl
@[simp] theorem State.takeWriteAns_rawv (s : State) (st : Status) (l : List Status) : (s.takeWriteAns st l).rawv = s.rawv := rfl
@[simp] theorem State.takeWriteAns_seq (s : State) (st : Status) (l : List Status) : (s.takeWriteAns st l).seq = s.seq := rfl
@[simp] theorem State.takeWriteAns_pend (s : State) (st : Status) (l : List Status) : (s.takeWriteAns st l).pend = s.pend := rfl
@[simp] theorem State.takeWriteAns_cmdr (s : State) (st : Status) (l : List Status) : (s.takeWriteAns st l).cmdr = s.cmdr := rfl
@[simp] theorem State.takeWriteAns_pol (s : State) (st : Status) (l : List Status) : (s.takeWriteAns st l).pol = s.pol := rfl
@[simp] theorem State.takeWriteAns_vf (s : State) (st : Status) (l : List Status) : (s.takeWriteAns st l).vf = s.vf := rfl
@[simp] theorem State.takeWriteAns_vc (s : State) (st : Status) (l : List Status) : (s.takeWriteAns st l).vc = s.vc := rfl
@[simp] theorem State.takeWriteAns_vh (s : State) (st : Status) (l : List Status) : (s.takeWriteAns st l).vh = s.vh := rfl
@[simp] theorem State.takeWriteAns_err (s : State) (st : Status) (l : List Status) : (s.takeWriteAns st l).err = s.err := rfl
@[simp] theorem State.takeWriteAns_stat (s : State) (st : Status) (l : List Status) : (s.takeWriteAns st l).stat = s.stat := rfl
@[simp] theorem State.takeWriteAns_outTF (s : State) (st : Status) (l : List Status) : (s.takeWriteAns st l).outTF = s.outTF := rfl
@[simp] theorem State.takeWriteAns_outTC (s : State) (st : Status) (l : List Status) : (s.takeWriteAns st l).outTC = s.outTC := rfl
@[simp] theorem State.takeWriteAns_outH (s : State) (st : Status) (l : List Status) : (s.takeWriteAns st l).outH = s.outH := rfl
@[simp] theorem State.takeWriteAns_cfgPolicy (s : State) (st : Status) (l : List Status) : (s.takeWriteAns st l).cfgPolicy = s.cfgPolicy := rfl
@[simp] theorem State.takeWriteAns_awaiting (s : State) (st : Status) (l : List Status) : (s.takeWriteAns st l).awaiting = false := rfl
@[simp] theorem State.takeWriteAns_resetReq (s : State) (st : Status) (l : List Status) : (s.takeWriteAns st l).resetReq = s.resetReq := rfl
@[simp] theorem State.takeWriteAns_callers (s : State) (st : Status) (l : List Status) : (s.takeWriteAns st l).callers = s.callers := rfl
@[simp] theorem State.takeWriteAns_writeAns (s : State) (st : Status) (l : List Status) : (s.takeWriteAns st l).writeAns = l := rfl
@[simp] theorem State.takeWriteAns_readAns (s : State) (st : Status) (l : List Status) : (s.takeWriteAns st l).readAns = s.readAns := rfl
@[simp] theorem State.takeWriteAns_delayAns (s : State) (st : Status) (l : List Status) : (s.takeWriteAns st l).delayAns = s.delayAns := rfl
@[simp] theorem State.takeWriteAns_trace (s : State) (st : Status) (l : List Status) : (s.takeWriteAns st l).trace = s.trace ++ [.writeAns st] := rfl
@[simp] theorem State.takeWriteAns_draws (s : State) (st : Status) (l : List Status) : (s.takeWriteAns st l).draws = s.draws := rfl

/-! ## takeDelayDone -/

@[simp] theorem State.takeDelayDone_b (s : State) (n : Nat) : (s.takeDelayDone n).b = s.b := rfl
@[simp] theorem State.takeDelayDone_rawv (s : State) (n : Nat) : (s.takeDelayDone n).rawv = s.rawv := rfl
@[simp] theorem State.takeDelayDone_seq (s : State) (n : Nat) : (s.takeDelayDone n).seq = s.seq := rfl
@[simp] theorem State.takeDelayDone_pend (s : State) (n : Nat) : (s.takeDelayDone n).pend = s.pend := rfl
@[simp] theorem State.takeDelayDone_cmdr (s : State) (n : Nat) : (s.takeDelayDone n).cmdr = s.cmdr := rfl
@[simp] theorem State.takeDelayDone_pol (s : State) (n : Nat) : (s.takeDelayDone n).pol = s.pol := rfl
@[simp] theorem State.takeDelayDone_vf (s : State) (n : Nat) : (s.takeDelayDone n).vf = s.vf := rfl
@[simp] theorem State.takeDelayDone_vc (s : State) (n : Nat) : (s.takeDelayDone n).vc = s.vc := rfl
@[simp] theorem State.takeDelayDone_vh (s : State) (n : Nat) : (s.takeDelayDone n).vh = s.vh := rfl
@[simp] theorem State.takeDelayDone_err (s : State) (n : Nat) : (s.takeDelayDone n).err = s.err := rfl
@[simp] theorem State.takeDelayDone_stat (s : State) (n : Nat) : (s.takeDelayDone n).stat = s.stat := rfl
@[simp] theorem State.takeDelayDone_outTF (s : State) (n : Nat) : (s.takeDelayDone n).outTF = s.outTF := rfl
@[simp] theorem State.takeDelayDone_outTC (s : State) (n : Nat) : (s.takeDelayDone n).outTC = s.outTC := rfl
@[simp] theorem State.takeDelayDone_outH (s : State) (n : Nat) : (s.takeDelayDone n).outH = s.outH := rfl
@[simp] theorem State.takeDelayDone_cfgPolicy (s : State) (n : Nat) : (s.takeDelayDone n).cfgPolicy = s.cfgPolicy := rfl
@[simp] theorem State.takeDelayDone_awaiting (s : State) (n : Nat) : (s.takeDelayDone n).awaiting = false := rfl
@[simp] theorem State.takeDelayDone_resetReq (s : State) (n : Nat) : (s.takeDelayDone n).resetReq = s.resetReq := rfl
@[simp] theorem State.takeDelayDone_callers (s : State) (n : Nat) : (s.takeDelayDone n).callers = s.callers := rfl
@[simp] theorem State.takeDelayDone_writeAns (s : State) (n : Nat) : (s.takeDelayDone n).writeAns = s.writeAns := rfl
@[simp] theorem State.takeDelayDone_readAns (s : State) (n : Nat) : (s.takeDelayDone n).readAns = s.readAns := rfl
@[simp] theorem State.takeDelayDone_delayAns (s : State) (n : Nat) : (s.takeDelayDone n).delayAns = n := rfl
@[simp] theorem State.takeDelayDone_trace (s : State) (n : Nat) : (s.takeDelayDone n).trace = s.trace ++ [.delayDone] := rfl
@[simp] theorem State.takeDelayDone_draws (s : State) (n : Nat) : (s.takeDelayDone n).draws = s.draws := rfl

/-! ## takeReadAns -/

@[simp] theorem State.takeReadAns_b (s : State) (w : ReadWord) (l : List ReadWord) : (s.takeReadAns w l).b = s.b := rfl
@[simp] theorem State.takeReadAns_rawv (s : State) (w : ReadWord) (l : List ReadWord) : (s.takeReadAns w l).rawv = s.rawv := rfl
@[simp] theorem State.takeReadAns_seq (s : State) (w : ReadWord) (l : List ReadWord) : (s.takeReadAns w l).seq = s.seq := rfl
@[simp] theorem State.takeReadAns_pend (s : State) (w : ReadWord) (l : List ReadWord) : (s.takeReadAns w l).pend = s.pend := rfl
@[simp] theorem State.takeReadAns_cmdr (s : State) (w : ReadWord) (l : List ReadWord) : (s.takeReadAns w l).cmdr = s.cmdr := rfl
@[simp] theorem State.takeReadAns_pol (s : State) (w : ReadWord) (l : List ReadWord) : (s.takeReadAns w l).pol = s.pol := rfl
@[simp] theorem State.takeReadAns_vf (s : State) (w : ReadWord) (l : List ReadWord) : (s.takeReadAns w l).vf = s.vf := rfl
@[simp] theorem State.takeReadAns_vc (s : State) (w : ReadWord) (l : List ReadWord) : (s.takeReadAns w l).vc = s.vc := rfl
@[simp] theorem State.takeReadAns_vh (s : State) (w : ReadWord) (l : List ReadWord) : (s.takeReadAns w l).vh = s.vh := rfl
@[simp] theorem State.takeReadAns_err (s : State) (w : ReadWord) (l : List ReadWord) : (s.takeReadAns w l).err = s.err := rfl
@[simp] theorem State.takeReadAns_stat (s : State) (w : ReadWord) (l : List ReadWord) : (s.takeReadAns w l).stat = s.stat := rfl
@[simp] theorem State.takeReadAns_outTF (s : State) (w : ReadWord) (l : List ReadWord) : (s.takeReadAns w l).outTF = s.outTF := rfl
@[simp] theorem State.takeReadAns_outTC (s : State) (w : ReadWord) (l : List ReadWord) : (s.takeReadAns w l).outTC = s.outTC := rfl
@[simp] theorem State.takeReadAns_outH (s : State) (w : ReadWord) (l : List ReadWord) : (s.takeReadAns w l).outH = s.outH := rfl
@[simp] theorem State.takeReadAns_cfgPolicy (s : State) (w : ReadWord) (l : List ReadWord) : (s.takeReadAns w l).cfgPolicy = s.cfgPolicy := rfl
@[simp] theorem State.takeReadAns_awaiting (s : State) (w : ReadWord) (l : List ReadWord) : (s.takeReadAns w l).awaiting = false := rfl
@[simp] theorem State.takeReadAns_resetReq (s : State) (w : ReadWord) (l : List ReadWord) : (s.takeReadAns w l).resetReq = s.resetReq := rfl
@[simp] theorem State.takeReadAns_callers (s : State) (w : ReadWord) (l : List ReadWord) : (s.takeReadAns w l).callers = s.callers := rfl
@[simp] theorem State.takeReadAns_writeAns (s : State) (w : ReadWord) (l : List ReadWord) : (s.takeReadAns w l).writeAns = s.writeAns := rfl
@[simp] theorem State.takeReadAns_readAns (s : State) (w : ReadWord) (l : List ReadWord) : (s.takeReadAns w l).readAns = l := rfl
@[simp] theorem State.takeReadAns_delayAns (s : State) (w : ReadWord) (l : List ReadWord) : (s.takeReadAns w l).delayAns = s.delayAns := rfl
@[simp] theorem State.takeReadAns_trace (s : State) (w : ReadWord) (l : List ReadWord) : (s.takeReadAns w l).trace = s.trace ++ [.readAns (unpackReadAnswer w)] := rfl
@[simp] theorem State.takeReadAns_draws (s : State) (w : ReadWord) (l : List ReadWord) : (s.takeReadAns w l).draws = s.draws := rfl

/-! ## clearValid -/

@[simp] theorem State.clearValid_b (s : State) : (s.clearValid).b = s.b := rfl
@[simp] theorem State.clearValid_rawv (s : State) : (s.clearValid).rawv = s.rawv := rfl
@[simp] theorem State.clearValid_seq (s : State) : (s.clearValid).seq = s.seq := rfl
@[simp] theorem State.clearValid_pend (s : State) : (s.clearValid).pend = s.pend := rfl
@[simp] theorem State.clearValid_cmdr (s : State) : (s.clearValid).cmdr = s.cmdr := rfl
@[simp] theorem State.clearValid_pol (s : State) : (s.clearValid).pol = s.pol := rfl
@[simp] theorem State.clearValid_vf (s : State) : (s.clearValid).vf = false := rfl
@[simp] theorem State.clearValid_vc (s : State) : (s.clearValid).vc = false := rfl
@[simp] theorem State.clearValid_vh (s : State) : (s.clearValid).vh = false := rfl
@[simp] theorem State.clearValid_err (s : State) : (s.clearValid).err = s.err := rfl
@[simp] theorem State.clearValid_stat (s : State) : (s.clearValid).stat = s.stat := rfl
@[simp] theorem State.clearValid_outTF (s : State) : (s.clearValid).outTF = s.outTF := rfl
@[simp] theorem State.clearValid_outTC (s : State) : (s.clearValid).outTC = s.outTC := rfl
@[simp] theorem State.clearValid_outH (s : State) : (s.clearValid).outH = s.outH := rfl
@[simp] theorem State.clearValid_cfgPolicy (s : State) : (s.clearValid).cfgPolicy = s.cfgPolicy := rfl
@[simp] theorem State.clearValid_awaiting (s : State) : (s.clearValid).awaiting = s.awaiting := rfl
@[simp] theorem State.clearValid_resetReq (s : State) : (s.clearValid).resetReq = s.resetReq := rfl
@[simp] theorem State.clearValid_callers (s : State) : (s.clearValid).callers = s.callers := rfl
@[simp] theorem State.clearValid_writeAns (s : State) : (s.clearValid).writeAns = s.writeAns := rfl
@[simp] theorem State.clearValid_readAns (s : State) : (s.clearValid).readAns = s.readAns := rfl
@[simp] theorem State.clearValid_delayAns (s : State) : (s.clearValid).delayAns = s.delayAns := rfl
@[simp] theorem State.clearValid_trace (s : State) : (s.clearValid).trace = s.trace := rfl
@[simp] theorem State.clearValid_draws (s : State) : (s.clearValid).draws = s.draws := rfl

/-! ## clearRaw -/

@[simp] theorem State.clearRaw_b (s : State) : (s.clearRaw).b = s.b := rfl
@[simp] theorem State.clearRaw_rawv (s : State) : (s.clearRaw).rawv = false := rfl
@[simp] theorem State.clearRaw_seq (s : State) : (s.clearRaw).seq = s.seq := rfl
@[simp] theorem State.clearRaw_pend (s : State) : (s.clearRaw).pend = s.pend := rfl
@[simp] theorem State.clearRaw_cmdr (s : State) : (s.clearRaw).cmdr = s.cmdr := rfl
@[simp] theorem State.clearRaw_pol (s : State) : (s.clearRaw).pol = s.pol := rfl
@[simp] theorem State.clearRaw_vf (s : State) : (s.clearRaw).vf = s.vf := rfl
@[simp] theorem State.clearRaw_vc (s : State) : (s.clearRaw).vc = s.vc := rfl
@[simp] theorem State.clearRaw_vh (s : State) : (s.clearRaw).vh = s.vh := rfl
@[simp] theorem State.clearRaw_err (s : State) : (s.clearRaw).err = s.err := rfl
@[simp] theorem State.clearRaw_stat (s : State) : (s.clearRaw).stat = s.stat := rfl
@[simp] theorem State.clearRaw_outTF (s : State) : (s.clearRaw).outTF = s.outTF := rfl
@[simp] theorem State.clearRaw_outTC (s : State) : (s.clearRaw).outTC = s.outTC := rfl
@[simp] theorem State.clearRaw_outH (s : State) : (s.clearRaw).outH = s.outH := rfl
@[simp] theorem State.clearRaw_cfgPolicy (s : State) : (s.clearRaw).cfgPolicy = s.cfgPolicy := rfl
@[simp] theorem State.clearRaw_awaiting (s : State) : (s.clearRaw).awaiting = s.awaiting := rfl
@[simp] theorem State.clearRaw_resetReq (s : State) : (s.clearRaw).resetReq = s.resetReq := rfl
@[simp] theorem State.clearRaw_callers (s : State) : (s.clearRaw).callers = s.callers := rfl
@[simp] theorem State.clearRaw_writeAns (s : State) : (s.clearRaw).writeAns = s.writeAns := rfl
@[simp] theorem State.clearRaw_readAns (s : State) : (s.clearRaw).readAns = s.readAns := rfl
@[simp] theorem State.clearRaw_delayAns (s : State) : (s.clearRaw).delayAns = s.delayAns := rfl
@[simp] theorem State.clearRaw_trace (s : State) : (s.clearRaw).trace = s.trace := rfl
@[simp] theorem State.clearRaw_draws (s : State) : (s.clearRaw).draws = s.draws := rfl

/-! ## loadSample -/

@[simp] theorem State.loadSample_b (s : State) (r : RawSample) : (s.loadSample r).b = r := rfl
@[simp] theorem State.loadSample_rawv (s : State) (r : RawSample) : (s.loadSample r).rawv = true := rfl
@[simp] theorem State.loadSample_seq (s : State) (r : RawSample) : (s.loadSample r).seq = s.seq := rfl
@[simp] theorem State.loadSample_pend (s : State) (r : RawSample) : (s.loadSample r).pend = s.pend := rfl
@[simp] theorem State.loadSample_cmdr (s : State) (r : RawSample) : (s.loadSample r).cmdr = s.cmdr := rfl
@[simp] theorem State.loadSample_pol (s : State) (r : RawSample) : (s.loadSample r).pol = s.pol := rfl
@[simp] theorem State.loadSample_vf (s : State) (r : RawSample) : (s.loadSample r).vf = s.vf := rfl
@[simp] theorem State.loadSample_vc (s : State) (r : RawSample) : (s.loadSample r).vc = s.vc := rfl
@[simp] theorem State.loadSample_vh (s : State) (r : RawSample) : (s.loadSample r).vh = s.vh := rfl
@[simp] theorem State.loadSample_err (s : State) (r : RawSample) : (s.loadSample r).err = s.err := rfl
@[simp] theorem State.loadSample_stat (s : State) (r : RawSample) : (s.loadSample r).stat = s.stat := rfl
@[simp] theorem State.loadSample_outTF (s : State) (r : RawSample) : (s.loadSample r).outTF = s.outTF := rfl
@[simp] theorem State.loadSample_outTC (s : State) (r : RawSample) : (s.loadSample r).outTC = s.outTC := rfl
@[simp] theorem State.loadSample_outH (s : State) (r : RawSample) : (s.loadSample r).outH = s.outH := rfl
@[simp] theorem State.loadSample_cfgPolicy (s : State) (r : RawSample) : (s.loadSample r).cfgPolicy = s.cfgPolicy := rfl
@[simp] theorem State.loadSample_awaiting (s : State) (r : RawSample) : (s.loadSample r).awaiting = s.awaiting := rfl
@[simp] theorem State.loadSample_resetReq (s : State) (r : RawSample) : (s.loadSample r).resetReq = s.resetReq := rfl
@[simp] theorem State.loadSample_callers (s : State) (r : RawSample) : (s.loadSample r).callers = s.callers := rfl
@[simp] theorem State.loadSample_writeAns (s : State) (r : RawSample) : (s.loadSample r).writeAns = s.writeAns := rfl
@[simp] theorem State.loadSample_readAns (s : State) (r : RawSample) : (s.loadSample r).readAns = s.readAns := rfl
@[simp] theorem State.loadSample_delayAns (s : State) (r : RawSample) : (s.loadSample r).delayAns = s.delayAns := rfl
@[simp] theorem State.loadSample_trace (s : State) (r : RawSample) : (s.loadSample r).trace = s.trace := rfl
@[simp] theorem State.loadSample_draws (s : State) (r : RawSample) : (s.loadSample r).draws = s.draws := rfl

/-! ## startQuery -/

@[simp] theorem State.startQuery_b (s : State) (m : QMask) : (s.startQuery m).b = s.b := rfl
@[simp] theorem State.startQuery_rawv (s : State) (m : QMask) : (s.startQuery m).rawv = false := rfl
@[simp] theorem State.startQuery_seq (s : State) (m : QMask) : (s.startQuery m).seq = .trig := rfl
@[simp] theorem State.startQuery_pend (s : State) (m : QMask) : (s.startQuery m).pend = m := rfl
@[simp] theorem State.startQuery_cmdr (s : State) (m : QMask) : (s.startQuery m).cmdr = m := rfl
@[simp] theorem State.startQuery_pol (s : State) (m : QMask) : (s.startQuery m).pol = s.cfgPolicy := rfl
@[simp] theorem State.startQuery_vf (s : State) (m : QMask) : (s.startQuery m).vf = false := rfl
@[simp] theorem State.startQuery_vc (s : State) (m : QMask) : (s.startQuery m).vc = false := rfl
@[simp] theorem State.startQuery_vh (s : State) (m : QMask) : (s.startQuery m).vh = false := rfl
@[simp] theorem State.startQuery_err (s : State) (m : QMask) : (s.startQuery m).err = .none := rfl
@[simp] theorem State.startQuery_stat (s : State) (m : QMask) : (s.startQuery m).stat = 0 := rfl
@[simp] theorem State.startQuery_outTF (s : State) (m : QMask) : (s.startQuery m).outTF = s.outTF := rfl
@[simp] theorem State.startQuery_outTC (s : State) (m : QMask) : (s.startQuery m).outTC = s.outTC := rfl
@[simp] theorem State.startQuery_outH (s : State) (m : QMask) : (s.startQuery m).outH = s.outH := rfl
@[simp] theorem State.startQuery_cfgPolicy (s : State) (m : QMask) : (s.startQuery m).cfgPolicy = s.cfgPolicy := rfl
@[simp] theorem State.startQuery_awaiting (s : State) (m : QMask) : (s.startQuery m).awaiting = s.awaiting := rfl
@[simp] theorem State.startQuery_resetReq (s : State) (m : QMask) : (s.startQuery m).resetReq = s.resetReq := rfl
@[simp] theorem State.startQuery_callers (s : State) (m : QMask) : (s.startQuery m).callers = s.callers := rfl
@[simp] theorem State.startQuery_writeAns (s : State) (m : QMask) : (s.startQuery m).writeAns = s.writeAns := rfl
@[simp] theorem State.startQuery_readAns (s : State) (m : QMask) : (s.startQuery m).readAns = s.readAns := rfl
@[simp] theorem State.startQuery_delayAns (s : State) (m : QMask) : (s.startQuery m).delayAns = s.delayAns := rfl
@[simp] theorem State.startQuery_trace (s : State) (m : QMask) : (s.startQuery m).trace = s.trace := rfl
@[simp] theorem State.startQuery_draws (s : State) (m : QMask) : (s.startQuery m).draws = s.draws := rfl

/-! ## trapEntry -/

@[simp] theorem State.trapEntry_b (s : State) (k : ErrKind) (st : Status) : (s.trapEntry k st).b = s.b := rfl
@[simp] theorem State.trapEntry_rawv (s : State) (k : ErrKind) (st : Status) : (s.trapEntry k st).rawv = false := rfl
@[simp] theorem State.trapEntry_seq (s : State) (k : ErrKind) (st : Status) : (s.trapEntry k st).seq = .resp := rfl
@[simp] theorem State.trapEntry_pend (s : State) (k : ErrKind) (st : Status) : (s.trapEntry k st).pend = 0 := rfl
@[simp] theorem State.trapEntry_cmdr (s : State) (k : ErrKind) (st : Status) : (s.trapEntry k st).cmdr = s.cmdr := rfl
@[simp] theorem State.trapEntry_pol (s : State) (k : ErrKind) (st : Status) : (s.trapEntry k st).pol = s.pol := rfl
@[simp] theorem State.trapEntry_vf (s : State) (k : ErrKind) (st : Status) : (s.trapEntry k st).vf = false := rfl
@[simp] theorem State.trapEntry_vc (s : State) (k : ErrKind) (st : Status) : (s.trapEntry k st).vc = false := rfl
@[simp] theorem State.trapEntry_vh (s : State) (k : ErrKind) (st : Status) : (s.trapEntry k st).vh = false := rfl
@[simp] theorem State.trapEntry_err (s : State) (k : ErrKind) (st : Status) : (s.trapEntry k st).err = k := rfl
@[simp] theorem State.trapEntry_stat (s : State) (k : ErrKind) (st : Status) : (s.trapEntry k st).stat = st := rfl
@[simp] theorem State.trapEntry_outTF (s : State) (k : ErrKind) (st : Status) : (s.trapEntry k st).outTF = s.outTF := rfl
@[simp] theorem State.trapEntry_outTC (s : State) (k : ErrKind) (st : Status) : (s.trapEntry k st).outTC = s.outTC := rfl
@[simp] theorem State.trapEntry_outH (s : State) (k : ErrKind) (st : Status) : (s.trapEntry k st).outH = s.outH := rfl
@[simp] theorem State.trapEntry_cfgPolicy (s : State) (k : ErrKind) (st : Status) : (s.trapEntry k st).cfgPolicy = s.cfgPolicy := rfl
@[simp] theorem State.trapEntry_awaiting (s : State) (k : ErrKind) (st : Status) : (s.trapEntry k st).awaiting = s.awaiting := rfl
@[simp] theorem State.trapEntry_resetReq (s : State) (k : ErrKind) (st : Status) : (s.trapEntry k st).resetReq = s.resetReq := rfl
@[simp] theorem State.trapEntry_callers (s : State) (k : ErrKind) (st : Status) : (s.trapEntry k st).callers = s.callers := rfl
@[simp] theorem State.trapEntry_writeAns (s : State) (k : ErrKind) (st : Status) : (s.trapEntry k st).writeAns = s.writeAns := rfl
@[simp] theorem State.trapEntry_readAns (s : State) (k : ErrKind) (st : Status) : (s.trapEntry k st).readAns = s.readAns := rfl
@[simp] theorem State.trapEntry_delayAns (s : State) (k : ErrKind) (st : Status) : (s.trapEntry k st).delayAns = s.delayAns := rfl
@[simp] theorem State.trapEntry_trace (s : State) (k : ErrKind) (st : Status) : (s.trapEntry k st).trace = s.trace := rfl
@[simp] theorem State.trapEntry_draws (s : State) (k : ErrKind) (st : Status) : (s.trapEntry k st).draws = s.draws := rfl

/-! ## respond -/

@[simp] theorem State.respond_b (s : State) : (s.respond).b = s.b := rfl
@[simp] theorem State.respond_rawv (s : State) : (s.respond).rawv = false := rfl
@[simp] theorem State.respond_seq (s : State) : (s.respond).seq = .idle := rfl
@[simp] theorem State.respond_pend (s : State) : (s.respond).pend = 0 := rfl
@[simp] theorem State.respond_cmdr (s : State) : (s.respond).cmdr = s.cmdr := rfl
@[simp] theorem State.respond_pol (s : State) : (s.respond).pol = s.pol := rfl
@[simp] theorem State.respond_vf (s : State) : (s.respond).vf = false := rfl
@[simp] theorem State.respond_vc (s : State) : (s.respond).vc = false := rfl
@[simp] theorem State.respond_vh (s : State) : (s.respond).vh = false := rfl
@[simp] theorem State.respond_err (s : State) : (s.respond).err = .none := rfl
@[simp] theorem State.respond_stat (s : State) : (s.respond).stat = 0 := rfl
@[simp] theorem State.respond_outTF (s : State) : (s.respond).outTF = s.outTF := rfl
@[simp] theorem State.respond_outTC (s : State) : (s.respond).outTC = s.outTC := rfl
@[simp] theorem State.respond_outH (s : State) : (s.respond).outH = s.outH := rfl
@[simp] theorem State.respond_cfgPolicy (s : State) : (s.respond).cfgPolicy = s.cfgPolicy := rfl
@[simp] theorem State.respond_awaiting (s : State) : (s.respond).awaiting = s.awaiting := rfl
@[simp] theorem State.respond_resetReq (s : State) : (s.respond).resetReq = s.resetReq := rfl
@[simp] theorem State.respond_callers (s : State) : (s.respond).callers = s.callers := rfl
@[simp] theorem State.respond_writeAns (s : State) : (s.respond).writeAns = s.writeAns := rfl
@[simp] theorem State.respond_readAns (s : State) : (s.respond).readAns = s.readAns := rfl
@[simp] theorem State.respond_delayAns (s : State) : (s.respond).delayAns = s.delayAns := rfl
@[simp] theorem State.respond_trace (s : State) : (s.respond).trace = s.trace ++ [.resp s.response] := rfl
@[simp] theorem State.respond_draws (s : State) : (s.respond).draws = s.draws := rfl

/-! ## setPolicy -/

@[simp] theorem State.setPolicy_b (s : State) (p : Policy) : (s.setPolicy p).b = s.b := rfl
@[simp] theorem State.setPolicy_rawv (s : State) (p : Policy) : (s.setPolicy p).rawv = s.rawv := rfl
@[simp] theorem State.setPolicy_seq (s : State) (p : Policy) : (s.setPolicy p).seq = s.seq := rfl
@[simp] theorem State.setPolicy_pend (s : State) (p : Policy) : (s.setPolicy p).pend = s.pend := rfl
@[simp] theorem State.setPolicy_cmdr (s : State) (p : Policy) : (s.setPolicy p).cmdr = s.cmdr := rfl
@[simp] theorem State.setPolicy_pol (s : State) (p : Policy) : (s.setPolicy p).pol = s.pol := rfl
@[simp] theorem State.setPolicy_vf (s : State) (p : Policy) : (s.setPolicy p).vf = s.vf := rfl
@[simp] theorem State.setPolicy_vc (s : State) (p : Policy) : (s.setPolicy p).vc = s.vc := rfl
@[simp] theorem State.setPolicy_vh (s : State) (p : Policy) : (s.setPolicy p).vh = s.vh := rfl
@[simp] theorem State.setPolicy_err (s : State) (p : Policy) : (s.setPolicy p).err = s.err := rfl
@[simp] theorem State.setPolicy_stat (s : State) (p : Policy) : (s.setPolicy p).stat = s.stat := rfl
@[simp] theorem State.setPolicy_outTF (s : State) (p : Policy) : (s.setPolicy p).outTF = s.outTF := rfl
@[simp] theorem State.setPolicy_outTC (s : State) (p : Policy) : (s.setPolicy p).outTC = s.outTC := rfl
@[simp] theorem State.setPolicy_outH (s : State) (p : Policy) : (s.setPolicy p).outH = s.outH := rfl
@[simp] theorem State.setPolicy_cfgPolicy (s : State) (p : Policy) : (s.setPolicy p).cfgPolicy = p := rfl
@[simp] theorem State.setPolicy_awaiting (s : State) (p : Policy) : (s.setPolicy p).awaiting = s.awaiting := rfl
@[simp] theorem State.setPolicy_resetReq (s : State) (p : Policy) : (s.setPolicy p).resetReq = s.resetReq := rfl
@[simp] theorem State.setPolicy_callers (s : State) (p : Policy) : (s.setPolicy p).callers = s.callers := rfl
@[simp] theorem State.setPolicy_writeAns (s : State) (p : Policy) : (s.setPolicy p).writeAns = s.writeAns := rfl
@[simp] theorem State.setPolicy_readAns (s : State) (p : Policy) : (s.setPolicy p).readAns = s.readAns := rfl
@[simp] theorem State.setPolicy_delayAns (s : State) (p : Policy) : (s.setPolicy p).delayAns = s.delayAns := rfl
@[simp] theorem State.setPolicy_trace (s : State) (p : Policy) : (s.setPolicy p).trace = s.trace ++ [.resp (bareResponse .none p)] := rfl
@[simp] theorem State.setPolicy_draws (s : State) (p : Policy) : (s.setPolicy p).draws = s.draws := rfl

/-! ## accept -/

@[simp] theorem State.accept_b (s : State) (w : CmdWord) (l : List (List CmdWord)) : (s.accept w l).b = s.b := rfl
@[simp] theorem State.accept_rawv (s : State) (w : CmdWord) (l : List (List CmdWord)) : (s.accept w l).rawv = s.rawv := rfl
@[simp] theorem State.accept_seq (s : State) (w : CmdWord) (l : List (List CmdWord)) : (s.accept w l).seq = s.seq := rfl
@[simp] theorem State.accept_pend (s : State) (w : CmdWord) (l : List (List CmdWord)) : (s.accept w l).pend = s.pend := rfl
@[simp] theorem State.accept_cmdr (s : State) (w : CmdWord) (l : List (List CmdWord)) : (s.accept w l).cmdr = s.cmdr := rfl
@[simp] theorem State.accept_pol (s : State) (w : CmdWord) (l : List (List CmdWord)) : (s.accept w l).pol = s.pol := rfl
@[simp] theorem State.accept_vf (s : State) (w : CmdWord) (l : List (List CmdWord)) : (s.accept w l).vf = s.vf := rfl
@[simp] theorem State.accept_vc (s : State) (w : CmdWord) (l : List (List CmdWord)) : (s.accept w l).vc = s.vc := rfl
@[simp] theorem State.accept_vh (s : State) (w : CmdWord) (l : List (List CmdWord)) : (s.accept w l).vh = s.vh := rfl
@[simp] theorem State.accept_err (s : State) (w : CmdWord) (l : List (List CmdWord)) : (s.accept w l).err = s.err := rfl
@[simp] theorem State.accept_stat (s : State) (w : CmdWord) (l : List (List CmdWord)) : (s.accept w l).stat = s.stat := rfl
@[simp] theorem State.accept_outTF (s : State) (w : CmdWord) (l : List (List CmdWord)) : (s.accept w l).outTF = s.outTF := rfl
@[simp] theorem State.accept_outTC (s : State) (w : CmdWord) (l : List (List CmdWord)) : (s.accept w l).outTC = s.outTC := rfl
@[simp] theorem State.accept_outH (s : State) (w : CmdWord) (l : List (List CmdWord)) : (s.accept w l).outH = s.outH := rfl
@[simp] theorem State.accept_cfgPolicy (s : State) (w : CmdWord) (l : List (List CmdWord)) : (s.accept w l).cfgPolicy = s.cfgPolicy := rfl
@[simp] theorem State.accept_awaiting (s : State) (w : CmdWord) (l : List (List CmdWord)) : (s.accept w l).awaiting = s.awaiting := rfl
@[simp] theorem State.accept_resetReq (s : State) (w : CmdWord) (l : List (List CmdWord)) : (s.accept w l).resetReq = s.resetReq := rfl
@[simp] theorem State.accept_callers (s : State) (w : CmdWord) (l : List (List CmdWord)) : (s.accept w l).callers = l := rfl
@[simp] theorem State.accept_writeAns (s : State) (w : CmdWord) (l : List (List CmdWord)) : (s.accept w l).writeAns = s.writeAns := rfl
@[simp] theorem State.accept_readAns (s : State) (w : CmdWord) (l : List (List CmdWord)) : (s.accept w l).readAns = s.readAns := rfl
@[simp] theorem State.accept_delayAns (s : State) (w : CmdWord) (l : List (List CmdWord)) : (s.accept w l).delayAns = s.delayAns := rfl
@[simp] theorem State.accept_trace (s : State) (w : CmdWord) (l : List (List CmdWord)) : (s.accept w l).trace = s.trace ++ [.cmd w] := rfl
@[simp] theorem State.accept_draws (s : State) (w : CmdWord) (l : List (List CmdWord)) : (s.accept w l).draws = s.draws + 1 := rfl

/-! ## endDispatch -/

@[simp] theorem State.endDispatch_b (s : State) (m : QMask) : (s.endDispatch m).b = s.b := rfl
@[simp] theorem State.endDispatch_rawv (s : State) (m : QMask) : (s.endDispatch m).rawv = false := rfl
@[simp] theorem State.endDispatch_seq (s : State) (m : QMask) : (s.endDispatch m).seq = if m = 0 then .resp else .trig := rfl
@[simp] theorem State.endDispatch_pend (s : State) (m : QMask) : (s.endDispatch m).pend = m := rfl
@[simp] theorem State.endDispatch_cmdr (s : State) (m : QMask) : (s.endDispatch m).cmdr = s.cmdr := rfl
@[simp] theorem State.endDispatch_pol (s : State) (m : QMask) : (s.endDispatch m).pol = s.pol := rfl
@[simp] theorem State.endDispatch_vf (s : State) (m : QMask) : (s.endDispatch m).vf = s.vf := rfl
@[simp] theorem State.endDispatch_vc (s : State) (m : QMask) : (s.endDispatch m).vc = s.vc := rfl
@[simp] theorem State.endDispatch_vh (s : State) (m : QMask) : (s.endDispatch m).vh = s.vh := rfl
@[simp] theorem State.endDispatch_err (s : State) (m : QMask) : (s.endDispatch m).err = s.err := rfl
@[simp] theorem State.endDispatch_stat (s : State) (m : QMask) : (s.endDispatch m).stat = s.stat := rfl
@[simp] theorem State.endDispatch_outTF (s : State) (m : QMask) : (s.endDispatch m).outTF = s.outTF := rfl
@[simp] theorem State.endDispatch_outTC (s : State) (m : QMask) : (s.endDispatch m).outTC = s.outTC := rfl
@[simp] theorem State.endDispatch_outH (s : State) (m : QMask) : (s.endDispatch m).outH = s.outH := rfl
@[simp] theorem State.endDispatch_cfgPolicy (s : State) (m : QMask) : (s.endDispatch m).cfgPolicy = s.cfgPolicy := rfl
@[simp] theorem State.endDispatch_awaiting (s : State) (m : QMask) : (s.endDispatch m).awaiting = s.awaiting := rfl
@[simp] theorem State.endDispatch_resetReq (s : State) (m : QMask) : (s.endDispatch m).resetReq = s.resetReq := rfl
@[simp] theorem State.endDispatch_callers (s : State) (m : QMask) : (s.endDispatch m).callers = s.callers := rfl
@[simp] theorem State.endDispatch_writeAns (s : State) (m : QMask) : (s.endDispatch m).writeAns = s.writeAns := rfl
@[simp] theorem State.endDispatch_readAns (s : State) (m : QMask) : (s.endDispatch m).readAns = s.readAns := rfl
@[simp] theorem State.endDispatch_delayAns (s : State) (m : QMask) : (s.endDispatch m).delayAns = s.delayAns := rfl
@[simp] theorem State.endDispatch_trace (s : State) (m : QMask) : (s.endDispatch m).trace = s.trace := rfl
@[simp] theorem State.endDispatch_draws (s : State) (m : QMask) : (s.endDispatch m).draws = s.draws := rfl

/-! ## illegal -/

@[simp] theorem State.illegal_b (s : State) : (s.illegal).b = s.b := rfl
@[simp] theorem State.illegal_rawv (s : State) : (s.illegal).rawv = s.rawv := rfl
@[simp] theorem State.illegal_seq (s : State) : (s.illegal).seq = s.seq := rfl
@[simp] theorem State.illegal_pend (s : State) : (s.illegal).pend = s.pend := rfl
@[simp] theorem State.illegal_cmdr (s : State) : (s.illegal).cmdr = s.cmdr := rfl
@[simp] theorem State.illegal_pol (s : State) : (s.illegal).pol = s.pol := rfl
@[simp] theorem State.illegal_vf (s : State) : (s.illegal).vf = s.vf := rfl
@[simp] theorem State.illegal_vc (s : State) : (s.illegal).vc = s.vc := rfl
@[simp] theorem State.illegal_vh (s : State) : (s.illegal).vh = s.vh := rfl
@[simp] theorem State.illegal_err (s : State) : (s.illegal).err = s.err := rfl
@[simp] theorem State.illegal_stat (s : State) : (s.illegal).stat = s.stat := rfl
@[simp] theorem State.illegal_outTF (s : State) : (s.illegal).outTF = s.outTF := rfl
@[simp] theorem State.illegal_outTC (s : State) : (s.illegal).outTC = s.outTC := rfl
@[simp] theorem State.illegal_outH (s : State) : (s.illegal).outH = s.outH := rfl
@[simp] theorem State.illegal_cfgPolicy (s : State) : (s.illegal).cfgPolicy = s.cfgPolicy := rfl
@[simp] theorem State.illegal_awaiting (s : State) : (s.illegal).awaiting = s.awaiting := rfl
@[simp] theorem State.illegal_resetReq (s : State) : (s.illegal).resetReq = s.resetReq := rfl
@[simp] theorem State.illegal_callers (s : State) : (s.illegal).callers = s.callers := rfl
@[simp] theorem State.illegal_writeAns (s : State) : (s.illegal).writeAns = s.writeAns := rfl
@[simp] theorem State.illegal_readAns (s : State) : (s.illegal).readAns = s.readAns := rfl
@[simp] theorem State.illegal_delayAns (s : State) : (s.illegal).delayAns = s.delayAns := rfl
@[simp] theorem State.illegal_trace (s : State) : (s.illegal).trace = s.trace ++ [.resp (bareResponse .illegalCmd s.cfgPolicy)] := rfl
@[simp] theorem State.illegal_draws (s : State) : (s.illegal).draws = s.draws := rfl

/-! ## putOut -/

@[simp] theorem State.putOut_b (s : State) (r : Reading) (q : Quantity) : (s.putOut r q).b = s.b := by
  cases q <;> rfl
@[simp] theorem State.putOut_rawv (s : State) (r : Reading) (q : Quantity) : (s.putOut r q).rawv = s.rawv := by
  cases q <;> rfl
@[simp] theorem State.putOut_seq (s : State) (r : Reading) (q : Quantity) : (s.putOut r q).seq = s.seq := by
  cases q <;> rfl
@[simp] theorem State.putOut_pend (s : State) (r : Reading) (q : Quantity) : (s.putOut r q).pend = s.pend := by
  cases q <;> rfl
@[simp] theorem State.putOut_cmdr (s : State) (r : Reading) (q : Quantity) : (s.putOut r q).cmdr = s.cmdr := by
  cases q <;> rfl
@[simp] theorem State.putOut_pol (s : State) (r : Reading) (q : Quantity) : (s.putOut r q).pol = s.pol := by
  cases q <;> rfl
@[simp] theorem State.putOut_err (s : State) (r : Reading) (q : Quantity) : (s.putOut r q).err = s.err := by
  cases q <;> rfl
@[simp] theorem State.putOut_stat (s : State) (r : Reading) (q : Quantity) : (s.putOut r q).stat = s.stat := by
  cases q <;> rfl
@[simp] theorem State.putOut_cfgPolicy (s : State) (r : Reading) (q : Quantity) : (s.putOut r q).cfgPolicy = s.cfgPolicy := by
  cases q <;> rfl
@[simp] theorem State.putOut_awaiting (s : State) (r : Reading) (q : Quantity) : (s.putOut r q).awaiting = s.awaiting := by
  cases q <;> rfl
@[simp] theorem State.putOut_resetReq (s : State) (r : Reading) (q : Quantity) : (s.putOut r q).resetReq = s.resetReq := by
  cases q <;> rfl
@[simp] theorem State.putOut_callers (s : State) (r : Reading) (q : Quantity) : (s.putOut r q).callers = s.callers := by
  cases q <;> rfl
@[simp] theorem State.putOut_writeAns (s : State) (r : Reading) (q : Quantity) : (s.putOut r q).writeAns = s.writeAns := by
  cases q <;> rfl
@[simp] theorem State.putOut_readAns (s : State) (r : Reading) (q : Quantity) : (s.putOut r q).readAns = s.readAns := by
  cases q <;> rfl
@[simp] theorem State.putOut_delayAns (s : State) (r : Reading) (q : Quantity) : (s.putOut r q).delayAns = s.delayAns := by
  cases q <;> rfl
@[simp] theorem State.putOut_trace (s : State) (r : Reading) (q : Quantity) : (s.putOut r q).trace = s.trace := by
  cases q <;> rfl
@[simp] theorem State.putOut_draws (s : State) (r : Reading) (q : Quantity) : (s.putOut r q).draws = s.draws := by
  cases q <;> rfl
@[simp] theorem State.putOut_vf (s : State) (r : Reading) (q : Quantity) :
    (s.putOut r q).vf = if q = .f then true else s.vf := by
  cases q <;> rfl
@[simp] theorem State.putOut_outTF (s : State) (r : Reading) (q : Quantity) :
    (s.putOut r q).outTF = if q = .f then sext16 r.tf else s.outTF := by
  cases q <;> rfl
@[simp] theorem State.putOut_vc (s : State) (r : Reading) (q : Quantity) :
    (s.putOut r q).vc = if q = .c then true else s.vc := by
  cases q <;> rfl
@[simp] theorem State.putOut_outTC (s : State) (r : Reading) (q : Quantity) :
    (s.putOut r q).outTC = if q = .c then sext16 r.tc else s.outTC := by
  cases q <;> rfl
@[simp] theorem State.putOut_vh (s : State) (r : Reading) (q : Quantity) :
    (s.putOut r q).vh = if q = .h then true else s.vh := by
  cases q <;> rfl
@[simp] theorem State.putOut_outH (s : State) (r : Reading) (q : Quantity) :
    (s.putOut r q).outH = if q = .h then zext16 r.h else s.outH := by
  cases q <;> rfl

/-! ## putIfPending -/

@[simp] theorem State.putIfPending_b (s : State) (r : Reading) (q : Quantity) :
    (s.putIfPending q r).b = s.b := by
  unfold State.putIfPending; split <;> simp
@[simp] theorem State.putIfPending_rawv (s : State) (r : Reading) (q : Quantity) :
    (s.putIfPending q r).rawv = s.rawv := by
  unfold State.putIfPending; split <;> simp
@[simp] theorem State.putIfPending_seq (s : State) (r : Reading) (q : Quantity) :
    (s.putIfPending q r).seq = s.seq := by
  unfold State.putIfPending; split <;> simp
@[simp] theorem State.putIfPending_pend (s : State) (r : Reading) (q : Quantity) :
    (s.putIfPending q r).pend = s.pend := by
  unfold State.putIfPending; split <;> simp
@[simp] theorem State.putIfPending_cmdr (s : State) (r : Reading) (q : Quantity) :
    (s.putIfPending q r).cmdr = s.cmdr := by
  unfold State.putIfPending; split <;> simp
@[simp] theorem State.putIfPending_pol (s : State) (r : Reading) (q : Quantity) :
    (s.putIfPending q r).pol = s.pol := by
  unfold State.putIfPending; split <;> simp
@[simp] theorem State.putIfPending_vf (s : State) (r : Reading) (q : Quantity) :
    (s.putIfPending q r).vf = if maskHas s.pend q = true ∧ q = .f then true else s.vf := by
  unfold State.putIfPending; cases maskHas s.pend q <;> simp
@[simp] theorem State.putIfPending_vc (s : State) (r : Reading) (q : Quantity) :
    (s.putIfPending q r).vc = if maskHas s.pend q = true ∧ q = .c then true else s.vc := by
  unfold State.putIfPending; cases maskHas s.pend q <;> simp
@[simp] theorem State.putIfPending_vh (s : State) (r : Reading) (q : Quantity) :
    (s.putIfPending q r).vh = if maskHas s.pend q = true ∧ q = .h then true else s.vh := by
  unfold State.putIfPending; cases maskHas s.pend q <;> simp
@[simp] theorem State.putIfPending_err (s : State) (r : Reading) (q : Quantity) :
    (s.putIfPending q r).err = s.err := by
  unfold State.putIfPending; split <;> simp
@[simp] theorem State.putIfPending_stat (s : State) (r : Reading) (q : Quantity) :
    (s.putIfPending q r).stat = s.stat := by
  unfold State.putIfPending; split <;> simp
@[simp] theorem State.putIfPending_outTF (s : State) (r : Reading) (q : Quantity) :
    (s.putIfPending q r).outTF = if maskHas s.pend q = true ∧ q = .f then sext16 r.tf else s.outTF := by
  unfold State.putIfPending; cases maskHas s.pend q <;> simp
@[simp] theorem State.putIfPending_outTC (s : State) (r : Reading) (q : Quantity) :
    (s.putIfPending q r).outTC = if maskHas s.pend q = true ∧ q = .c then sext16 r.tc else s.outTC := by
  unfold State.putIfPending; cases maskHas s.pend q <;> simp
@[simp] theorem State.putIfPending_outH (s : State) (r : Reading) (q : Quantity) :
    (s.putIfPending q r).outH = if maskHas s.pend q = true ∧ q = .h then zext16 r.h else s.outH := by
  unfold State.putIfPending; cases maskHas s.pend q <;> simp
@[simp] theorem State.putIfPending_cfgPolicy (s : State) (r : Reading) (q : Quantity) :
    (s.putIfPending q r).cfgPolicy = s.cfgPolicy := by
  unfold State.putIfPending; split <;> simp
@[simp] theorem State.putIfPending_awaiting (s : State) (r : Reading) (q : Quantity) :
    (s.putIfPending q r).awaiting = s.awaiting := by
  unfold State.putIfPending; split <;> simp
@[simp] theorem State.putIfPending_resetReq (s : State) (r : Reading) (q : Quantity) :
    (s.putIfPending q r).resetReq = s.resetReq := by
  unfold State.putIfPending; split <;> simp
@[simp] theorem State.putIfPending_callers (s : State) (r : Reading) (q : Quantity) :
    (s.putIfPending q r).callers = s.callers := by
  unfold State.putIfPending; split <;> simp
@[simp] theorem State.putIfPending_writeAns (s : State) (r : Reading) (q : Quantity) :
    (s.putIfPending q r).writeAns = s.writeAns := by
  unfold State.putIfPending; split <;> simp
@[simp] theorem State.putIfPending_readAns (s : State) (r : Reading) (q : Quantity) :
    (s.putIfPending q r).readAns = s.readAns := by
  unfold State.putIfPending; split <;> simp
@[simp] theorem State.putIfPending_delayAns (s : State) (r : Reading) (q : Quantity) :
    (s.putIfPending q r).delayAns = s.delayAns := by
  unfold State.putIfPending; split <;> simp
@[simp] theorem State.putIfPending_trace (s : State) (r : Reading) (q : Quantity) :
    (s.putIfPending q r).trace = s.trace := by
  unfold State.putIfPending; split <;> simp
@[simp] theorem State.putIfPending_draws (s : State) (r : Reading) (q : Quantity) :
    (s.putIfPending q r).draws = s.draws := by
  unfold State.putIfPending; split <;> simp

/-! ## applyReset -/

@[simp] theorem State.applyReset_b (s : State) : s.applyReset.b = ⟨0, 0, 0, 0⟩ := rfl
@[simp] theorem State.applyReset_rawv (s : State) : s.applyReset.rawv = false := rfl
@[simp] theorem State.applyReset_seq (s : State) : s.applyReset.seq = .idle := rfl
@[simp] theorem State.applyReset_pend (s : State) : s.applyReset.pend = 0 := rfl
@[simp] theorem State.applyReset_cmdr (s : State) : s.applyReset.cmdr = 0 := rfl
@[simp] theorem State.applyReset_pol (s : State) : s.applyReset.pol = .shared := rfl
@[simp] theorem State.applyReset_vf (s : State) : s.applyReset.vf = false := rfl
@[simp] theorem State.applyReset_vc (s : State) : s.applyReset.vc = false := rfl
@[simp] theorem State.applyReset_vh (s : State) : s.applyReset.vh = false := rfl
@[simp] theorem State.applyReset_err (s : State) : s.applyReset.err = .none := rfl
@[simp] theorem State.applyReset_stat (s : State) : s.applyReset.stat = 0 := rfl
@[simp] theorem State.applyReset_outTF (s : State) : s.applyReset.outTF = 0 := rfl
@[simp] theorem State.applyReset_outTC (s : State) : s.applyReset.outTC = 0 := rfl
@[simp] theorem State.applyReset_outH (s : State) : s.applyReset.outH = 0 := rfl
@[simp] theorem State.applyReset_cfgPolicy (s : State) : s.applyReset.cfgPolicy = .shared := rfl
@[simp] theorem State.applyReset_awaiting (s : State) : s.applyReset.awaiting = false := rfl
@[simp] theorem State.applyReset_resetReq (s : State) : s.applyReset.resetReq = false := rfl
@[simp] theorem State.applyReset_callers (s : State) : s.applyReset.callers = s.callers := rfl
@[simp] theorem State.applyReset_trace (s : State) : s.applyReset.trace = s.trace ++ [.reset] := rfl
@[simp] theorem State.applyReset_draws (s : State) : s.applyReset.draws = s.draws := rfl

end Sys2Proof.Machine
end

