-- ==== Sys2Proof/Laws/Ops.lean ====
section
/-! SUPPORT. What each shared operation can do, said once: masks and valid bits, the command port, the
micro-operations' answers, and the inversion of every meaning that answers a next state. -/

namespace Sys2Proof.Machine

/-! ## Masks and valid bits -/

theorem valid_eq_zero_iff (s : State) : s.valid = 0 ↔ s.vf = false ∧ s.vc = false ∧ s.vh = false := by
  unfold State.valid
  cases s.vf <;> cases s.vc <;> cases s.vh <;> decide

/-- The valid bits depend on the three flags only. -/
theorem valid_congr {s t : State} (hf : t.vf = s.vf) (hc : t.vc = s.vc) (hh : t.vh = s.vh) :
    t.valid = s.valid := by
  simp only [State.valid, hf, hc, hh]

@[simp] theorem valid_emit (s : State) (e : Event) : (s.emit e).valid = s.valid := rfl
@[simp] theorem valid_goto (s : State) (p : Phase) : (s.goto p).valid = s.valid := rfl
@[simp] theorem valid_issue (s : State) (r : Request) : (s.issue r).valid = s.valid := rfl
@[simp] theorem valid_endDispatch (s : State) (m : QMask) : (s.endDispatch m).valid = s.valid := rfl
@[simp] theorem valid_takeWriteAns (s : State) (st : Status) (l : List Status) :
    (s.takeWriteAns st l).valid = s.valid := rfl
@[simp] theorem valid_takeDelayDone (s : State) (n : Nat) : (s.takeDelayDone n).valid = s.valid := rfl
@[simp] theorem valid_takeReadAns (s : State) (w : ReadWord) (l : List ReadWord) :
    (s.takeReadAns w l).valid = s.valid := rfl
@[simp] theorem valid_loadSample (s : State) (r : RawSample) : (s.loadSample r).valid = s.valid := rfl
@[simp] theorem valid_setPolicy (s : State) (p : Policy) : (s.setPolicy p).valid = s.valid := rfl
@[simp] theorem valid_illegal (s : State) : s.illegal.valid = s.valid := rfl
@[simp] theorem valid_accept (s : State) (w : CmdWord) (l : List (List CmdWord)) :
    (s.accept w l).valid = s.valid := rfl
@[simp] theorem valid_clearRaw (s : State) : s.clearRaw.valid = s.valid := rfl
@[simp] theorem valid_clearValid (s : State) : s.clearValid.valid = 0 :=
  (valid_eq_zero_iff _).2 ⟨rfl, rfl, rfl⟩
@[simp] theorem valid_trapEntry (s : State) (k : ErrKind) (st : Status) : (s.trapEntry k st).valid = 0 :=
  (valid_eq_zero_iff _).2 ⟨rfl, rfl, rfl⟩
@[simp] theorem valid_startQuery (s : State) (m : QMask) : (s.startQuery m).valid = 0 :=
  (valid_eq_zero_iff _).2 ⟨rfl, rfl, rfl⟩
@[simp] theorem valid_respond (s : State) : s.respond.valid = 0 :=
  (valid_eq_zero_iff _).2 ⟨rfl, rfl, rfl⟩
@[simp] theorem valid_applyReset (s : State) : s.applyReset.valid = 0 :=
  (valid_eq_zero_iff _).2 ⟨rfl, rfl, rfl⟩

/-- Writing one output register sets its valid bit (R107, R108). -/
@[simp] theorem valid_putOut (s : State) (r : Reading) (q : Quantity) :
    (s.putOut r q).valid = s.valid ||| (1 : QMask) <<< q.bit := by
  simp only [State.valid]
  cases q <;> simp only [State.putOut] <;> cases s.vf <;> cases s.vc <;> cases s.vh <;> decide

/-- The shared dispatch step sets the valid bits of every pending quantity (R107). -/
@[simp] theorem valid_dispatchShared (s : State) (r : Reading) :
    (s.dispatchShared r).valid = s.valid ||| s.pend := by
  have key : ∀ (f c h : Bool) (m : QMask),
      BitVec.ofBool (if maskHas m .h then true else h) ++ BitVec.ofBool (if maskHas m .c then true else c) ++
          BitVec.ofBool (if maskHas m .f then true else f)
        = BitVec.ofBool h ++ BitVec.ofBool c ++ BitVec.ofBool f ||| m := by decide
  simpa [State.dispatchShared, State.valid] using key s.vf s.vc s.vh s.pend

/-- Producing a pending quantity moves its bit from PEND to the valid bits (R13, R108). -/
theorem mask_move {m v : QMask} {q : Quantity} (h : maskHas m q = true) (hd : m &&& v = 0) :
    maskClear m q ||| (v ||| (1 : QMask) <<< q.bit) = m ||| v ∧
      maskClear m q &&& (v ||| (1 : QMask) <<< q.bit) = 0 := by
  revert m v; cases q <;> decide

/-- Disjoint masks hold as many quantities as their union. -/
theorem maskCount_or {m v : QMask} (hd : m &&& v = 0) : maskCount (m ||| v) = maskCount m + maskCount v := by
  revert m v; decide

/-- The quantity the per-quantity step takes is pending, and no lower one is (R108). -/
theorem maskLowest_some {m : QMask} {q : Quantity} (h : maskLowest m = some q) :
    maskHas m q = true ∧ ∀ p : Quantity, p.bit < q.bit → maskHas m p = false := by
  unfold maskLowest at h
  split at h
  · cases h; exact ⟨‹_›, fun p hp => absurd hp (by simp [Quantity.bit])⟩
  · split at h
    · cases h
      exact ⟨‹_›, fun p hp => by cases p <;> simp_all [Quantity.bit]⟩
    · split at h
      · cases h
        exact ⟨‹_›, fun p hp => by cases p <;> simp_all [Quantity.bit]⟩
      · cases h

theorem maskLowest_none_iff (m : QMask) : maskLowest m = none ↔ m = 0 := by
  revert m; decide

theorem maskHas_clear (m : QMask) (q p : Quantity) :
    maskHas (maskClear m q) p = (maskHas m p && p != q) := by
  revert m; cases q <;> cases p <;> decide

theorem maskCount_clear {m : QMask} {q : Quantity} (h : maskHas m q = true) :
    maskCount (maskClear m q) + 1 = maskCount m := by
  revert m; cases q <;> decide

theorem maskCount_eq_zero_iff (m : QMask) : maskCount m = 0 ↔ m = 0 := by
  revert m; decide

/-! ## The command port -/

/-- What the port could accept is the first word of one caller (R139). -/
theorem offers_spec {cs : List (List CmdWord)} {o : CmdWord × List (List CmdWord)} (h : o ∈ offers cs) :
    ∃ before after ws, cs = before ++ (o.1 :: ws) :: after ∧ o.2 = before ++ ws :: after := by
  induction cs generalizing o with
  | nil => simp [offers] at h
  | cons c cs ih =>
    cases c with
    | nil =>
      simp only [offers, List.mem_map] at h
      obtain ⟨o', ho', rfl⟩ := h
      obtain ⟨before, after, ws, hcs, ho⟩ := ih ho'
      exact ⟨[] :: before, after, ws, by simp [hcs], by simp [ho]⟩
    | cons w ws =>
      simp only [offers, List.mem_cons, List.mem_map] at h
      rcases h with rfl | ⟨o', ho', rfl⟩
      · exact ⟨[], cs, ws, rfl, rfl⟩
      · obtain ⟨before, after, us, hcs, ho⟩ := ih ho'
        exact ⟨(w :: ws) :: before, after, us, by simp [hcs], by simp [ho]⟩

/-- Whatever the free value, the choice is among the words on offer. -/
theorem chooseOffer_mem {n : Nat} {os : List (CmdWord × List (List CmdWord))}
    {o : CmdWord × List (List CmdWord)} (h : chooseOffer n os = some o) : o ∈ os := by
  unfold chooseOffer at h
  split at h
  · cases h
  · cases h; simp
  · exact List.mem_of_getElem? h

/-- Whatever the free value, some word is chosen if one is on offer. -/
theorem chooseOffer_none_iff (n : Nat) (os : List (CmdWord × List (List CmdWord))) :
    chooseOffer n os = none ↔ os = [] := by
  unfold chooseOffer
  split
  · simp
  · simp
  · rename_i h0 h1
    have hpos : 0 < os.length := List.length_pos_iff.mpr h0
    have hlt : Config.acceptChoice n % os.length < os.length := Nat.mod_lt _ hpos
    simp only [List.getElem?_eq_getElem hlt, reduceCtorEq, false_iff]
    exact h0

/-! ## Meanings -/

/-- A host command either is held, or has its effect in IDLE (R105, R140). -/
theorem acceptedIn_next {s e t : State} (h : acceptedIn s e = .next t) :
    (s.seq ≠ .idle ∧ t = s) ∨ (s.seq = .idle ∧ t = e) := by
  unfold acceptedIn State.busy at h
  split at h <;> simp_all

/-- All `trig_write` can do (R71). -/
theorem execTrigWrite_next {s t : State} (h : execTrigWrite s = .next t) :
    s.seq = .trig ∧
      ((s.awaiting = false ∧ t = s.clearRaw.issue trigRequest) ∨
        (s.awaiting = true ∧ s.writeAns = [] ∧ t = s) ∨
        (∃ st rest, s.awaiting = true ∧ s.writeAns = st :: rest ∧
          ((st = 0 ∧ t = (s.takeWriteAns st rest).goto .wait) ∨
            (st ≠ 0 ∧ t = (s.takeWriteAns st rest).trapEntry .writeFail st)))) := by
  unfold execTrigWrite at h
  split at h
  · refine ⟨‹_›, ?_⟩
    split at h
    · split at h
      · cases h; exact .inr (.inl ⟨‹_›, ‹_›, rfl⟩)
      · cases h
        refine .inr (.inr ⟨_, _, ‹_›, ‹_›, ?_⟩)
        unfold State.afterWrite
        split
        · exact .inr ⟨‹_›, rfl⟩
        · exact .inl ⟨by simp_all, rfl⟩
    · cases h; exact .inl ⟨by simp_all, rfl⟩
  · cases h

/-- All `wait40` can do (R72). -/
theorem execWait40_next {s t : State} (h : execWait40 s = .next t) :
    s.seq = .wait ∧
      ((s.awaiting = false ∧ t = s.issue waitRequest) ∨
        (s.awaiting = true ∧ s.delayAns = 0 ∧ t = s) ∨
        (∃ n, s.awaiting = true ∧ s.delayAns = n + 1 ∧ t = (s.takeDelayDone n).goto .read)) := by
  unfold execWait40 at h
  split at h
  · refine ⟨‹_›, ?_⟩
    split at h
    · split at h
      · cases h; exact .inr (.inl ⟨‹_›, ‹_›, rfl⟩)
      · cases h; exact .inr (.inr ⟨_, ‹_›, ‹_›, rfl⟩)
    · cases h; exact .inl ⟨by simp_all, rfl⟩
  · cases h

/-- All that can follow the answer to the block read (R73). -/
theorem afterRead_cases (a : ReadAnswer) (s : State) :
    (a.data.length < 4 ∧ s.afterRead a = s.trapEntry .readFail Config.ioErrorCode) ∨
      (4 ≤ a.data.length ∧ a.status ≠ 0 ∧ s.afterRead a = s.trapEntry .readFail a.status) ∨
      (∃ d0 d1 d2 d3 l, a.data = d0 :: d1 :: d2 :: d3 :: l ∧ a.status = 0 ∧
        s.afterRead a = (s.loadSample ⟨d0, d1, d2, d3⟩).goto .dec) := by
  obtain ⟨data, status⟩ := a
  match data with
  | [] => exact .inl ⟨by simp, rfl⟩
  | [_] => exact .inl ⟨by simp, rfl⟩
  | [_, _] => exact .inl ⟨by simp, rfl⟩
  | [_, _, _] => exact .inl ⟨by simp, rfl⟩
  | d0 :: d1 :: d2 :: d3 :: l =>
    by_cases hst : status = 0
    · exact .inr (.inr ⟨d0, d1, d2, d3, l, rfl, hst, if_neg (not_not.mpr hst)⟩)
    · exact .inr (.inl ⟨by simp, hst, if_pos hst⟩)

/-- All `blk_read` can do (R73). -/
theorem execBlkRead_next {s t : State} (h : execBlkRead s = .next t) :
    s.seq = .read ∧
      ((s.awaiting = false ∧ t = s.issue readRequest) ∨
        (s.awaiting = true ∧ s.readAns = [] ∧ t = s) ∨
        (∃ w rest, s.awaiting = true ∧ s.readAns = w :: rest ∧
          t = (s.takeReadAns w rest).afterRead (unpackReadAnswer w))) := by
  unfold execBlkRead at h
  split at h
  · refine ⟨‹_›, ?_⟩
    split at h
    · split at h
      · cases h; exact .inr (.inl ⟨‹_›, ‹_›, rfl⟩)
      · cases h; exact .inr (.inr ⟨_, _, ‹_›, ‹_›, rfl⟩)
    · cases h; exact .inl ⟨by simp_all, rfl⟩
  · cases h

end Sys2Proof.Machine
end

