-- ==== Sys2Proof/Laws/PerInstr.lean ====
section
/-! SUPPORT. A statement about each instruction as syntax, one lemma per constructor: its encoding
decodes to it, and it is well formed. -/

namespace Sys2Proof.Laws

/-- An instruction is well formed and its encoding decodes to it (R51 to R55). -/
def Encoding.Statement (i : Instr) : Prop := i.wf = true ∧ decode (encode i) = .instr i

theorem Encoding.readTempF : Encoding.Statement .readTempF := ⟨rfl, by decide⟩
theorem Encoding.readTempC : Encoding.Statement .readTempC := ⟨rfl, by decide⟩
theorem Encoding.readHumid : Encoding.Statement .readHumid := ⟨rfl, by decide⟩
theorem Encoding.readTempHumid : Encoding.Statement .readTempHumid := ⟨rfl, by decide⟩
theorem Encoding.readAll : Encoding.Statement .readAll := ⟨rfl, by decide⟩
theorem Encoding.setPolicy (p : Policy) : Encoding.Statement (.setPolicy p) := ⟨rfl, by cases p <;> decide⟩
theorem Encoding.trigWrite : Encoding.Statement .trigWrite := ⟨rfl, by decide⟩
theorem Encoding.wait40 : Encoding.Statement .wait40 := ⟨rfl, by decide⟩
theorem Encoding.blkRead : Encoding.Statement .blkRead := ⟨rfl, by decide⟩

end Sys2Proof.Laws
end

