-- ==== Sys2Proof/Laws/Step.lean ====
section
/-! SUPPORT. All a step can do, said once. -/

namespace Sys2Proof.Machine

/-- The decoder's verdict on the constant request words of the phases (R55). -/
@[simp] theorem decode_trigWord : decode (.req trigWord) = .instr .trigWrite := by decide
@[simp] theorem decode_waitWord : decode (.req waitWord) = .instr .wait40 := by decide
@[simp] theorem decode_readWord : decode (.req readWord) = .instr .blkRead := by decide

/-- The quantity mask of a query instruction (R52). -/
def queryMask : Instr → Option QMask
  | .readTempF => some 0b001
  | .readTempC => some 0b010
  | .readHumid => some 0b100
  | .readTempHumid => some 0b101
  | .readAll => some 0b111
  | .setPolicy _ => none
  | .trigWrite => none
  | .wait40 => none
  | .blkRead => none

/-- A command word is a query with its own bits as the mask, a `set_policy`, or reserved (R51 to R53). -/
theorem decodeCmd_cases (w : CmdWord) :
    (∃ i, decodeCmd w = .instr i ∧ queryMask i = some (CmdWord.mask w)) ∨
      (∃ p, decodeCmd w = .instr (.setPolicy p)) ∨ decodeCmd w = .reject (.reservedCommand w) := by
  revert w
  unfold decodeCmd decodeQuery
  intro w
  split
  · split
    · exact .inr (.inl ⟨_, rfl⟩)
    · exact .inr (.inr rfl)
  · split
    · rename_i i h
      refine .inl ⟨i, rfl, ?_⟩
      repeat' split at h
      all_goals first
        | (cases h; simp only [queryMask, *])
        | cases h
    · exact .inr (.inr rfl)

/-- In IDLE, after acceptance, a query starts with its mask (R105, R106). -/
theorem exec_query {i : Instr} {m : QMask} (hq : queryMask i = some m) (s : State) (h : s.seq = .idle) :
    exec i s = .next (s.startQuery m) := by
  cases i <;> simp_all [queryMask] <;> subst hq <;>
    simp [exec, execReadTempF, execReadTempC, execReadHumid, execReadTempHumid, execReadAll, acceptedIn,
      State.busy, h]

/-- What the step of IDLE does (R105, R120). -/
theorem step_idle {s : State} (hr : s.resetReq = false) (hs : s.seq = .idle) :
    (chooseOffer s.draws (offers s.callers) = none ∧ step s = .next s) ∨
      ∃ w rest, chooseOffer s.draws (offers s.callers) = some (w, rest) ∧
        ((∃ i, decodeCmd w = .instr i ∧ queryMask i = some (CmdWord.mask w) ∧
            step s = .next ((s.accept w rest).startQuery (CmdWord.mask w))) ∨
          (∃ p, decodeCmd w = .instr (.setPolicy p) ∧ step s = .next ((s.accept w rest).setPolicy p)) ∨
          (decodeCmd w = .reject (.reservedCommand w) ∧ step s = .next (s.accept w rest).illegal)) := by
  cases ho : chooseOffer s.draws (offers s.callers) with
  | none => exact .inl ⟨rfl, by simp [step, hr, State.fetch, hs, ho]⟩
  | some o =>
    obtain ⟨w, rest⟩ := o
    refine .inr ⟨w, rest, rfl, ?_⟩
    have hidle : (s.accept w rest).seq = .idle := by simp [hs]
    rcases decodeCmd_cases w with ⟨i, hi, hm⟩ | ⟨p, hp⟩ | hrj
    · exact .inl ⟨i, hi, hm, by simp [step, hr, State.fetch, hs, ho, decode, hi, exec_query hm _ hidle]⟩
    · refine .inr (.inl ⟨p, hp, ?_⟩)
      simp [step, hr, State.fetch, hs, ho, decode, hp, exec, execSetPolicy, acceptedIn, State.busy]
    · exact .inr (.inr ⟨hrj, by simp [step, hr, State.fetch, hs, ho, decode, hrj, rejectWord]⟩)

@[simp] theorem step_trig {s : State} (hr : s.resetReq = false) (hs : s.seq = .trig) :
    step s = execTrigWrite s := by
  simp [step, hr, State.fetch, hs, exec]

@[simp] theorem step_wait {s : State} (hr : s.resetReq = false) (hs : s.seq = .wait) :
    step s = execWait40 s := by
  simp [step, hr, State.fetch, hs, exec]

@[simp] theorem step_read {s : State} (hr : s.resetReq = false) (hs : s.seq = .read) :
    step s = execBlkRead s := by
  simp [step, hr, State.fetch, hs, exec]

@[simp] theorem step_dec {s : State} (hr : s.resetReq = false) (hs : s.seq = .dec) :
    step s = dispatchStep s := by
  simp [step, hr, State.fetch, hs]

@[simp] theorem step_resp {s : State} (hr : s.resetReq = false) (hs : s.seq = .resp) :
    step s = .next s.respond := by
  simp [step, hr, State.fetch, hs]

@[simp] theorem step_reset {s : State} (hr : s.resetReq = true) : step s = .next s.applyReset := by
  simp [step, hr]

/-- All the dispatch step can do (R107, R108). -/
theorem dispatchStep_next {s t : State} (h : dispatchStep s = .next t) :
    s.rawv = true ∧
      ((s.pol = .shared ∧ t = s.dispatchShared (decodeSample s.b)) ∨
        (∃ q, s.pol = .perQuantity ∧ maskLowest s.pend = some q ∧ t = s.dispatchOne q (decodeSample s.b))) := by
  unfold dispatchStep at h
  split at h
  · refine ⟨‹_›, ?_⟩
    split at h
    · cases h; exact .inl ⟨‹_›, rfl⟩
    · split at h
      · cases h
      · cases h; exact .inr ⟨_, ‹_›, ‹_›, rfl⟩
  · cases h

/-- All a step can do: reset, or what the phase does (R120). -/
theorem step_cases {s t : State} (h : step s = .next t) :
    (s.resetReq = true ∧ t = s.applyReset) ∨
      (s.resetReq = false ∧
        ((s.seq = .idle ∧ t = s) ∨
          (s.seq = .idle ∧ ∃ w rest i, chooseOffer s.draws (offers s.callers) = some (w, rest) ∧
            decodeCmd w = .instr i ∧ queryMask i = some (CmdWord.mask w) ∧
            t = (s.accept w rest).startQuery (CmdWord.mask w)) ∨
          (s.seq = .idle ∧ ∃ w rest p, chooseOffer s.draws (offers s.callers) = some (w, rest) ∧
            decodeCmd w = .instr (.setPolicy p) ∧ t = (s.accept w rest).setPolicy p) ∨
          (s.seq = .idle ∧ ∃ w rest, chooseOffer s.draws (offers s.callers) = some (w, rest) ∧
            decodeCmd w = .reject (.reservedCommand w) ∧ t = (s.accept w rest).illegal) ∨
          execTrigWrite s = .next t ∨ execWait40 s = .next t ∨ execBlkRead s = .next t ∨
          (s.seq = .dec ∧ dispatchStep s = .next t) ∨ (s.seq = .resp ∧ t = s.respond))) := by
  cases hr : s.resetReq with
  | true =>
    rw [step_reset hr] at h
    cases h; exact .inl ⟨rfl, rfl⟩
  | false =>
    refine .inr ⟨rfl, ?_⟩
    cases hs : s.seq with
    | idle =>
      rcases step_idle hr hs with ⟨_, hk⟩ | ⟨w, rest, ho, ⟨i, hi, hm, hk⟩ | ⟨p, hp, hk⟩ | ⟨hrj, hk⟩⟩ <;>
        rw [hk] at h <;> cases h
      · exact .inl ⟨rfl, rfl⟩
      · exact .inr (.inl ⟨rfl, w, rest, i, ho, hi, hm, rfl⟩)
      · exact .inr (.inr (.inl ⟨rfl, w, rest, p, ho, hp, rfl⟩))
      · exact .inr (.inr (.inr (.inl ⟨rfl, w, rest, ho, hrj, rfl⟩)))
    | trig =>
      rw [step_trig hr hs] at h
      exact .inr (.inr (.inr (.inr (.inl h))))
    | wait =>
      rw [step_wait hr hs] at h
      exact .inr (.inr (.inr (.inr (.inr (.inl h)))))
    | read =>
      rw [step_read hr hs] at h
      exact .inr (.inr (.inr (.inr (.inr (.inr (.inl h))))))
    | dec =>
      rw [step_dec hr hs] at h
      exact .inr (.inr (.inr (.inr (.inr (.inr (.inr (.inl ⟨rfl, h⟩)))))))
    | resp =>
      rw [step_resp hr hs] at h
      cases h
      exact .inr (.inr (.inr (.inr (.inr (.inr (.inr (.inr ⟨rfl, rfl⟩)))))))

/-! ## Runs -/

/-- A run of one step more begins with the step. -/
theorem coreRun_succ (M : Host.Core) {s t : M.State} (h : M.step s = .next t) (k : Nat) :
    M.run (k + 1) s = M.run k t := by
  simp only [Host.Core.run, h]

/-- A run that goes on began with a step that went on. -/
theorem coreRun_succ_next (M : Host.Core) {s t : M.State} {k : Nat} (h : M.run (k + 1) s = .next t) :
    ∃ s', M.step s = .next s' ∧ M.run k s' = .next t := by
  simp only [Host.Core.run] at h
  split at h
  · exact ⟨_, ‹_›, h⟩
  · cases h
  · cases h

theorem run_succ {s t : State} (h : step s = .next t) (k : Nat) :
    Sys2Proof.core.run (k + 1) s = Sys2Proof.core.run k t := coreRun_succ Sys2Proof.core h k

theorem run_zero (s : State) : Sys2Proof.core.run 0 s = .next s := rfl

/-- Runs compose. -/
theorem run_add {s t : State} {j : Nat} (h : Sys2Proof.core.run j s = .next t) (k : Nat) :
    Sys2Proof.core.run (j + k) s = Sys2Proof.core.run k t := by
  induction j generalizing s with
  | zero => cases h; rw [Nat.zero_add]
  | succ j ih =>
    obtain ⟨s', hs, hr⟩ := coreRun_succ_next Sys2Proof.core h
    rw [Nat.succ_add, run_succ hs]
    exact ih hr

end Sys2Proof.Machine
end

