-- ==== Sys2Proof/Laws/Run.lean ====
section
/-! SUPPORT. One acquisition as a run of six steps (spec/40_acquire.md R70). -/

namespace Sys2Proof.Machine

/-- The events of one successful acquisition (R70). -/
def acquisitionEvents (a : ReadAnswer) : List Event :=
  [.request trigRequest, .writeAns 0, .request waitRequest, .delayDone, .request readRequest, .readAns a]

/-- The state after one successful acquisition: the sample is held, the phase is DEC (R70). -/
def State.acquired (ans : List Status) (d : Nat) (as : List ReadWord) (x : RawSample) (s : State) : State :=
  { s with
    b := x, rawv := true, seq := .dec, awaiting := false
    writeAns := ans, delayAns := d, readAns := as
    trace := s.trace ++ acquisitionEvents ⟨[x.b0, x.b1, x.b2, x.b3], 0⟩ }

/-- Six steps from the start of an acquisition whose requests succeed. -/
theorem run_acquire {s : State} {ans : List Status} {d : Nat} {a : ReadWord} {as : List ReadWord}
    {x : RawSample} (hr : s.resetReq = false) (hs : s.seq = .trig) (ha : s.awaiting = false)
    (hw : s.writeAns = 0 :: ans) (hd : s.delayAns = d + 1) (hra : s.readAns = a :: as)
    (hu : unpackReadAnswer a = ⟨[x.b0, x.b1, x.b2, x.b3], 0⟩) :
    Sys2Proof.core.run 6 s = .next (s.acquired ans d as x) := by
  have h1 : step s = .next (s.clearRaw.issue trigRequest) := by
    rw [step_trig hr hs]; simp [execTrigWrite, hs, ha]
  have h2 : step (s.clearRaw.issue trigRequest) =
      .next (((s.clearRaw.issue trigRequest).takeWriteAns 0 ans).goto .wait) := by
    rw [step_trig (by simp [hr]) (by simp [hs])]
    simp [execTrigWrite, hs, hw, State.afterWrite]
  rw [run_succ h1, run_succ h2]
  generalize hs2 : ((s.clearRaw.issue trigRequest).takeWriteAns 0 ans).goto .wait = s2
  have h3 : step s2 = .next (s2.issue waitRequest) := by
    subst hs2
    rw [step_wait (by simp [hr]) (by simp)]; simp [execWait40]
  have h4 : step (s2.issue waitRequest) = .next (((s2.issue waitRequest).takeDelayDone d).goto .read) := by
    subst hs2
    rw [step_wait (by simp [hr]) (by simp)]; simp [execWait40, hd]
  rw [run_succ h3, run_succ h4]
  generalize hs4 : ((s2.issue waitRequest).takeDelayDone d).goto .read = s4
  have h5 : step s4 = .next (s4.issue readRequest) := by
    subst hs4 hs2
    rw [step_read (by simp [hr]) (by simp)]; simp [execBlkRead]
  have h6 : step (s4.issue readRequest) =
      .next (((s4.issue readRequest).takeReadAns a as).loadSample x |>.goto .dec) := by
    subst hs4 hs2
    rw [step_read (by simp [hr]) (by simp)]
    simp [execBlkRead, hra, hu, State.afterRead]
  rw [run_succ h5, run_succ h6, run_zero]
  subst hs4 hs2
  refine congrArg Host.Outcome.next (?_ : (_ : State) = _)
  ext1 <;> simp [State.acquired, acquisitionEvents, hu]

/-- Seven steps under PER_QUANTITY: an acquisition whose requests succeed, and the dispatch of the
lowest pending quantity from its sample (R70, R108). -/
theorem run_acquire_dispatchOne {s : State} {q : Quantity} {ans : List Status} {d : Nat} {a : ReadWord}
    {as : List ReadWord} {x : RawSample} (hr : s.resetReq = false) (hs : s.seq = .trig)
    (ha : s.awaiting = false) (hp : s.pol = .perQuantity) (hq : maskLowest s.pend = some q)
    (hw : s.writeAns = 0 :: ans) (hd : s.delayAns = d + 1) (hra : s.readAns = a :: as)
    (hu : unpackReadAnswer a = ⟨[x.b0, x.b1, x.b2, x.b3], 0⟩) :
    Sys2Proof.core.run 7 s = .next ((s.acquired ans d as x).dispatchOne q (decodeSample x)) := by
  rw [show (7 : Nat) = 6 + 1 from rfl, run_add (run_acquire hr hs ha hw hd hra hu)]
  have h : step (s.acquired ans d as x) = .next ((s.acquired ans d as x).dispatchOne q (decodeSample x)) := by
    rw [step_dec (s := s.acquired ans d as x) hr rfl]
    simp [dispatchStep, State.acquired, hp, hq]
  rw [run_succ h, run_zero]

end Sys2Proof.Machine
end

