-- ==== Sys2Proof/Tests/Slice0.lean ====
section
/-! SUPPORT. Tests. Expected results come from spec/95_test_vectors.md or from the rule a test names,
never from the model. After them, one witness for each statement of Obligations.lean that has
hypotheses: a state and operands that meet them, for each of its clauses. -/

namespace Sys2Proof.Tests

open Sys2Proof.Machine Sys2Proof.Safety

/-! ## Small states -/

/-- An idle block at whose port one caller holds one word. -/
def idleWith (w : CmdWord) : State := { State.reset with callers := [[w]] }

/-- A command for all three quantities in a phase. -/
def inPhase (p : Phase) : State := { State.reset with seq := p, pend := 0b111, cmdr := 0b111 }

/-- TRIG with the request outstanding and one answer at the port. -/
def trigAnswered (st : Status) : State := { inPhase .trig with awaiting := true, writeAns := [st] }

/-- WAIT with the request outstanding and the delay over. -/
def waitAnswered : State := { inPhase .wait with awaiting := true, delayAns := 1 }

/-- READ with the request outstanding and one answer word at the port. -/
def readAnswered (w : ReadWord) : State := { inPhase .read with awaiting := true, readAns := [w] }

/-- DEC with a sample held. -/
def decWith (p : Policy) (m : QMask) (x : RawSample) : State :=
  { inPhase .dec with pol := p, cfgPolicy := p, pend := m, rawv := true, b := x }

/-- RESP of a `read_temp_c` whose value is −40.0 °C. -/
def respCelsius : State :=
  { State.reset with seq := .resp, cmdr := 0b010, vc := true, outTC := 0xFE70 }

/-- RESP of a failed command. -/
def respFailed : State :=
  { State.reset with seq := .resp, cmdr := 0b111, err := .readFail, stat := 0xFFFFFF87 }

/-- A full answer of four bytes with status 0 (V8). -/
def fullAnswer (d0 d1 d2 d3 : Byte) : ReadWord := packReadAnswer ⟨[d0, d1, d2, d3], 0⟩

/-- The next state, or the state itself where there is none. -/
def after (o : Host.Outcome State Fault Refusal) (s : State) : State :=
  match o with
  | .next t => t
  | .fault _ => s
  | .refused _ => s

/-- The state after one step. -/
def stepped (s : State) : State := after (step s) s

/-! ## Decoding (V9, V13) -/

theorem test_decode_commands :
    decode (.cmd 0b0001) = .instr .readTempF ∧ decode (.cmd 0b0010) = .instr .readTempC ∧
    decode (.cmd 0b0100) = .instr .readHumid ∧ decode (.cmd 0b0101) = .instr .readTempHumid ∧
    decode (.cmd 0b0111) = .instr .readAll ∧ decode (.cmd 0b1000) = .instr (.setPolicy .shared) ∧
    decode (.cmd 0b1001) = .instr (.setPolicy .perQuantity) := by decide

theorem test_decode_reserved :
    [0b0000#4, 0b0011, 0b0110, 0b1010, 0b1011, 0b1100, 0b1101, 0b1110, 0b1111].all
      (fun w => decode (.cmd w) == .reject (.reservedCommand w)) = true := by decide

theorem test_decode_requests :
    decode (.req 0b01_0100111_00000000_00000000) = .instr .trigWrite ∧
    decode (.req 0b11_0000000_00000000_00101000) = .instr .wait40 ∧
    decode (.req 0b10_0100111_00000000_00000100) = .instr .blkRead := by decide

theorem test_encode_words :
    encode .trigWrite = .req 0x0A70000 ∧ encode .wait40 = .req 0x1800028 ∧
    encode .blkRead = .req 0x1270004 ∧ encode (.setPolicy .perQuantity) = .cmd 0b1001 ∧
    encode .readTempHumid = .cmd 0b0101 := by decide

/-- A wrong device, register or length, a delay with an address, and OP = 0b00 name no request (U12). -/
theorem test_decode_other_requests :
    decode (.req 0b01_0100110_00000000_00000000) = .reject (.unknownRequest 0b01_0100110_00000000_00000000) ∧
    decode (.req 0b10_0100111_00000001_00000100) = .reject (.unknownRequest 0b10_0100111_00000001_00000100) ∧
    decode (.req 0b11_0100111_00000000_00101000) = .reject (.unknownRequest 0b11_0100111_00000000_00101000) ∧
    decode (.req 0) = .reject (.noRequest 0) := by decide

theorem test_table_words :
    decodeTableWord 8 0x1 = some .readTempF ∧ decodeTableWord 8 0x8 = some (.setPolicy .shared) ∧
    decodeTableWord 32 0x1270004 = some .blkRead ∧ decodeTableWord 8 0x11 = none ∧
    decodeTableWord 32 0x3270004 = none := by decide

/-! ## WellFormed: an ill-formed term for each check -/

theorem test_wf_request_device : Request.wf (.busWrite 0x26 0x00 0) = false := by decide
theorem test_wf_request_register : Request.wf (.busRead 0x27 0x01 4) = false := by decide
theorem test_wf_request_length : Request.wf (.busRead 0x27 0x00 3) = false ∧ Request.wf (.busWrite 0x27 0x00 1) = false := by
  decide
theorem test_wf_request_delay : Request.wf (.delay 39) = false ∧ Request.wf (.delay 40) = true := by decide
theorem test_wf_answer_too_long : ReadAnswer.wf ⟨[1, 2, 3, 4, 5], 0⟩ = false := by decide
theorem test_wf_response_value_without_bit :
    Response.wf ⟨.none, 0, .shared, 0b010, some 1, some 1, none⟩ = false ∧
    Response.wf ⟨.none, 0, .shared, 0b001, some 1, some 1, none⟩ = false ∧
    Response.wf ⟨.none, 0, .shared, 0b001, some 1, none, some 1⟩ = false := by decide
theorem test_wf_response_error_with_value :
    Response.wf ⟨.writeFail, 1, .shared, 0b001, some 1, none, none⟩ = false := by decide
theorem test_wf_response_status :
    Response.wf ⟨.none, 1, .shared, 0, none, none, none⟩ = false ∧
    Response.wf ⟨.readFail, 0, .shared, 0, none, none, none⟩ = false := by decide
theorem test_wf_instr : Instr.wf (.setPolicy .shared) = true := by decide

/-! ## The decoder (V1, V3, V4) -/

theorem test_decoder_vectors :
    [ ((⟨0x00, 0x00, 0x00, 0x00⟩ : RawSample), (⟨-400, -400, 0⟩ : Reading)),
      (⟨0x3F, 0xFF, 0xFF, 0xFC⟩, ⟨2568, 1249, 999⟩), (⟨0xFF, 0xFF, 0xFF, 0xFF⟩, ⟨2568, 1249, 999⟩),
      (⟨0xC0, 0x00, 0x00, 0x03⟩, ⟨-400, -400, 0⟩), (⟨0x80, 0x01, 0x00, 0x04⟩, ⟨-400, -400, 0⟩),
      (⟨0x20, 0x00, 0x66, 0x64⟩, ⟨786, 259, 500⟩), (⟨0x1F, 0xFF, 0x3D, 0xE8⟩, ⟨319, -1, 499⟩),
      (⟨0x00, 0x11, 0x3D, 0xE4⟩, ⟨317, -2, 1⟩), (⟨0x00, 0x10, 0x3D, 0xFC⟩, ⟨319, -1, 0⟩),
      (⟨0x2A, 0xAA, 0x55, 0x54⟩, ⟨588, 149, 666⟩), (⟨0x12, 0x34, 0x56, 0x7B⟩, ⟨602, 157, 284⟩),
      (⟨0x3F, 0xFE, 0x00, 0x00⟩, ⟨-400, -400, 999⟩), (⟨0xC0, 0x00, 0x3E, 0x13⟩, ⟨320, 0, 0⟩)].all
      (fun p => decodeSample p.1 == p.2) = true := by decide

theorem test_fahrenheit_truncates_toward_zero :
    convF (-399) = -398 ∧ convF (-9) = 304 ∧ convF (-5) = 311 ∧ convF (-3) = 315 ∧ convF (-1) = 319 ∧
    convF 1 = 321 ∧ convF 1249 = 2568 := by decide

theorem test_conversion_thresholds :
    convH 16 = 0 ∧ convH 17 = 1 ∧ convH 8191 = 499 ∧ convH 8192 = 500 ∧ convH 16367 = 998 ∧ convH 16368 = 999 ∧
    convC 9 = -400 ∧ convC 10 = -399 ∧ convC 3971 = -1 ∧ convC 3972 = 0 ∧ convC 16375 = 1249 := by decide

/-! ## Packed words (V8, V13, R57) -/

theorem test_response_words :
    packResponse ⟨.none, 0, .shared, 0b111, some 2568, some 1249, some 999⟩ = 0x07_0000_0000_0A08_04E1_03E7 ∧
    packResponse ⟨.none, 0, .perQuantity, 0b101, some 319, none, some 500⟩ = 0x0D_0000_0000_013F_0000_01F4 ∧
    packResponse ⟨.writeFail, 0xFFFFFFFA, .shared, 0, none, none, none⟩ = 0x10_FFFF_FFFA_0000_0000_0000 ∧
    packResponse ⟨.readFail, 0xFFFFFFFB, .perQuantity, 0, none, none, none⟩ = 0x28_FFFF_FFFB_0000_0000_0000 ∧
    packResponse ⟨.illegalCmd, 0, .shared, 0, none, none, none⟩ = 0x30_0000_0000_0000_0000_0000 := by decide

theorem test_answer_words :
    packReadAnswer ⟨[0x3F, 0xFF, 0xFF, 0xFC], 0⟩ = 0x4_3FFFFFFC_00000000 ∧
    packReadAnswer ⟨[0x3F, 0xFF, 0xFF], 0⟩ = 0x3_3FFFFF00_00000000 ∧
    unpackReadAnswer 0x3_3FFFFF77_00000000 = ⟨[0x3F, 0xFF, 0xFF], 0⟩ := by decide

/-- The reserved codes 5, 6 and 7 of N are read as 4 (R57). -/
theorem test_reserved_counts :
    readCount 0x5_00000000_00000000 = 4 ∧ readCount 0x6_00000000_00000000 = 4 ∧
    readCount 0x7_00000000_00000000 = 4 ∧ readCount 0x3_00000000_00000000 = 3 := by decide

/-! ## Single steps -/

/-- R106, R105: `read_all` is accepted, latches its mask and starts. -/
theorem test_read_all_starts :
    (stepped (idleWith 0b0111)).seq = .trig ∧ (stepped (idleWith 0b0111)).pend = 0b111 ∧
    (stepped (idleWith 0b0111)).callers = [[]] ∧ (stepped (idleWith 0b0111)).trace = [.cmd 0b0111] := by decide

/-- P2, first command: `set_policy per_quantity` answers 0x08… and stays in IDLE. -/
theorem test_set_policy :
    (stepped (idleWith 0b1001)).cfgPolicy = .perQuantity ∧ (stepped (idleWith 0b1001)).seq = .idle ∧
    (stepped (idleWith 0b1001)).trace =
      [.cmd 0b1001, .resp ⟨.none, 0, .perQuantity, 0, none, none, none⟩] := by decide

/-- P5: the reserved word 0b1010 is answered and sets nothing. -/
theorem test_reserved_word :
    (stepped (idleWith 0b1010)).cfgPolicy = .shared ∧
    (stepped (idleWith 0b1010)).trace =
      [.cmd 0b1010, .resp ⟨.illegalCmd, 0, .shared, 0, none, none, none⟩] := by decide

/-- V6: the request, and the answers 0, −6 and 1. -/
theorem test_trig_write :
    (stepped (inPhase .trig)).trace = [.request (.busWrite 0x27 0x00 0)] ∧
    (stepped (trigAnswered 0)).seq = .wait ∧
    (stepped (trigAnswered 0xFFFFFFFA)).err = .writeFail ∧
    (stepped (trigAnswered 0xFFFFFFFA)).stat = 0xFFFFFFFA ∧
    (stepped (trigAnswered 1)).err = .writeFail ∧ (stepped (trigAnswered 1)).seq = .resp := by decide

/-- V7: the request, `DelayDone`, and no answer yet. -/
theorem test_wait40 :
    (stepped (inPhase .wait)).trace = [.request (.delay 40)] ∧ (stepped waitAnswered).seq = .read ∧
    (stepped (stepped (inPhase .wait))).seq = .wait := by decide

/-- V8: success, short read, short read with a status, full payload with a status. -/
theorem test_blk_read :
    (stepped (readAnswered 0x4_3FFFFFFC_00000000)).b = ⟨0x3F, 0xFF, 0xFF, 0xFC⟩ ∧
    (stepped (readAnswered 0x4_3FFFFFFC_00000000)).seq = .dec ∧
    (stepped (readAnswered 0x3_3FFFFF00_00000000)).stat = 0xFFFFFFFB ∧
    (stepped (readAnswered 0x2_01020000_FFFFFF87)).stat = 0xFFFFFFFB ∧
    (stepped (readAnswered 0x4_1FFF6664_FFFFFF87)).stat = 0xFFFFFF87 ∧
    (stepped (readAnswered 0x4_1FFF6664_FFFFFF87)).rawv = false := by decide

/-- V10, V11: the dispatch step under both policies. -/
theorem test_dispatch :
    (stepped (decWith .shared 0b111 ⟨0x12, 0x34, 0x56, 0x78⟩)).outTF = 602 ∧
    (stepped (decWith .shared 0b111 ⟨0x12, 0x34, 0x56, 0x78⟩)).outTC = 157 ∧
    (stepped (decWith .shared 0b111 ⟨0x12, 0x34, 0x56, 0x78⟩)).outH = 284 ∧
    (stepped (decWith .perQuantity 0b111 ⟨0x00, 0x00, 0x3E, 0x38⟩)).outTF = 321 ∧
    (stepped (decWith .perQuantity 0b111 ⟨0x00, 0x00, 0x3E, 0x38⟩)).pend = 0b110 ∧
    (stepped (decWith .perQuantity 0b111 ⟨0x00, 0x00, 0x3E, 0x38⟩)).seq = .trig ∧
    (stepped (decWith .perQuantity 0b110 ⟨0x00, 0x00, 0x3D, 0x9C⟩)).outTC = 0xFFFD ∧
    (stepped (decWith .perQuantity 0b100 ⟨0x3F, 0xFE, 0x00, 0x00⟩)).outH = 999 ∧
    (stepped (decWith .perQuantity 0b100 ⟨0x3F, 0xFE, 0x00, 0x00⟩)).seq = .resp := by decide

/-- R111, V13: the response `Resp(NONE, 0, SHARED, 0b010, -, −400, -)`, packed 0x02…FE70_0000. -/
theorem test_respond :
    (stepped respCelsius).trace = [.resp ⟨.none, 0, .shared, 0b010, none, some 0xFE70, none⟩] ∧
    packResponse respCelsius.response = 0x02_0000_0000_0000_FE70_0000 ∧
    (stepped respCelsius).seq = .idle ∧ (stepped respCelsius).vc = false := by decide

/-- R146: a reset in TRIG ignores the answer to the outstanding write and emits no response. -/
theorem test_reset_in_command :
    (stepped { trigAnswered 0 with resetReq := true }).seq = .idle ∧
    (stepped { trigAnswered 0 with resetReq := true }).writeAns = [] ∧
    (stepped { trigAnswered 0 with resetReq := true }).trace = [.reset] := by decide

/-- R140: with two callers either first word may be accepted, and the other stays held. -/
theorem test_two_callers :
    offers [[0b0001], [0b0010, 0b0100]] =
      [(0b0001, [[], [0b0010, 0b0100]]), (0b0010, [[0b0001], [0b0100]])] := by decide

/-- Each row of the opcode table runs as the first instruction after reset. -/
theorem test_fetch_words :
    (stepped (State.reset.withFetchWord 8 0x1)).pend = 0b001 ∧
    (stepped (State.reset.withFetchWord 8 0x2)).pend = 0b010 ∧
    (stepped (State.reset.withFetchWord 8 0x4)).pend = 0b100 ∧
    (stepped (State.reset.withFetchWord 8 0x5)).pend = 0b101 ∧
    (stepped (State.reset.withFetchWord 8 0x7)).pend = 0b111 ∧
    (stepped (State.reset.withFetchWord 8 0x9)).cfgPolicy = .perQuantity ∧
    (stepped (State.reset.withFetchWord 32 0x0A70000)).trace = [.request (.busWrite 0x27 0x00 0)] ∧
    (stepped (State.reset.withFetchWord 32 0x1800028)).trace = [.request (.delay 40)] ∧
    (stepped (State.reset.withFetchWord 32 0x1270004)).trace = [.request (.busRead 0x27 0x00 4)] := by decide

/-! ## Witnesses: selecting and decoding -/

/-- A command word at the port, and a phase's request word. -/
theorem witness_StepRunsDecodedInstruction :
    (idleWith 0b0111).resetReq = false ∧
    (idleWith 0b0111).fetch = .code (.cmd 0b0111) ((idleWith 0b0111).accept 0b0111 [[]]) ∧
    decode (.cmd 0b0111) = .instr .readAll ∧
    (inPhase .read).resetReq = false ∧ (inPhase .read).fetch = .code (.req readWord) (inPhase .read) ∧
    decode (.req readWord) = .instr .blkRead := by decide

theorem witness_AcceptanceTakesTheHeldWord :
    (idleWith 0b0001).seq = .idle ∧ (idleWith 0b0001).callers = [0b0001 :: []] ∧
    ({ State.reset with callers := [[0b1111, 0b0001]] } : State).callers = [0b1111 :: [0b0001]] := by decide

/-- With one caller that holds a word, and with two, whichever the free value takes. -/
theorem witness_AcceptedWordIsHeldBySomeCaller :
    (({ State.reset with callers := [[], [0b0010]] } : State).fetch =
      .code (.cmd 0b0010) (({ State.reset with callers := [[], [0b0010]] } : State).accept 0b0010 [[], []])) ∧
    ∃ c s', ({ State.reset with callers := [[0b0001], [0b0010]] } : State).fetch = .code c s' := by
  refine ⟨by decide, ?_⟩
  rcases h : chooseOffer 0 (offers [[0b0001], [0b0010]]) with _ | o
  · exact absurd ((chooseOffer_none_iff _ _).1 h) (by decide)
  · exact ⟨.cmd o.1, State.accept o.1 o.2 { State.reset with callers := [[0b0001], [0b0010]] }, by
      simp only [State.fetch, State.reset, h]⟩

/-- Both sides of the equivalence. -/
theorem witness_IdleBlockAcceptsIfAWordIsHeld :
    ({ State.reset with callers := [[], []] } : State).seq = .idle ∧
    ({ State.reset with callers := [[], []] } : State).fetch = .nothing ∧
    (idleWith 0b0000).seq = .idle ∧ (idleWith 0b0000).fetch ≠ .nothing := by decide

theorem witness_PhaseSelectsItsMicroOperation :
    (inPhase .trig).seq = .trig ∧ (inPhase .wait).seq = .wait ∧ (inPhase .read).seq = .read := by decide

/-! ## Witnesses: the host commands -/

theorem witness_QueryLatchesItsMaskAndStarts :
    [(Instr.readTempF, 0b001#3), (Instr.readTempC, 0b010#3), (Instr.readHumid, 0b100#3),
      (Instr.readTempHumid, 0b101#3), (Instr.readAll, 0b111#3)].all (fun p =>
        decide (p ∈ [(Instr.readTempF, 0b001#3), (Instr.readTempC, 0b010#3), (Instr.readHumid, 0b100#3),
          (Instr.readTempHumid, 0b101#3), (Instr.readAll, 0b111#3)])) = true ∧
    State.reset.seq = .idle ∧ (idleWith 0b0001).seq = .idle := by decide

theorem witness_SetPolicyConfiguresAndAnswers :
    State.reset.seq = .idle ∧ ({ State.reset with cfgPolicy := .perQuantity } : State).seq = .idle := by decide

theorem witness_BusyBlockHoldsACommand :
    encode .readAll = .cmd 0b0111 ∧ encode (.setPolicy .perQuantity) = .cmd 0b1001 ∧
    (inPhase .trig).seq ≠ .idle ∧ (inPhase .resp).seq ≠ .idle := by decide

theorem witness_BusyStepAcceptsNoCommand :
    ({ inPhase .trig with callers := [[0b1001]] } : State).resetReq = false ∧
    ({ inPhase .trig with callers := [[0b1001]] } : State).seq ≠ .idle ∧
    step { inPhase .trig with callers := [[0b1001]] } =
      .next (stepped { inPhase .trig with callers := [[0b1001]] }) := ⟨rfl, by decide, rfl⟩

/-- Every one of the nine words. -/
theorem witness_ReservedWordIsAnsweredAndChangesNothing :
    [0b0000#4, 0b0011#4, 0b0110#4, 0b1010#4, 0b1011#4, 0b1100#4, 0b1101#4, 0b1110#4, 0b1111#4].all
      (fun w => !(idleWith w).resetReq && (idleWith w).seq == .idle &&
        (idleWith w).fetch == .code (.cmd w) ((idleWith w).accept w [[]])) = true := by decide

/-! ## Witnesses: the micro-operations -/

/-- One for each clause; a status of each sign and the most negative one. -/
theorem witness_TrigWriteFollowsItsRule :
    (inPhase .trig).seq = .trig ∧ (inPhase .trig).awaiting = false ∧
    (trigAnswered 0).seq = .trig ∧ (trigAnswered 0).awaiting = true ∧ (trigAnswered 0).writeAns = 0 :: [] ∧
    (trigAnswered 1).writeAns = 1 :: [] ∧ (1 : Status) ≠ 0 ∧
    (trigAnswered 0x80000000).writeAns = 0x80000000 :: [] ∧ (0x80000000 : Status) ≠ 0 ∧
    (trigAnswered 0xFFFFFFFF).writeAns = 0xFFFFFFFF :: [] ∧ (0xFFFFFFFF : Status) ≠ 0 ∧
    ({ inPhase .trig with awaiting := true } : State).awaiting = true ∧
    ({ inPhase .trig with awaiting := true } : State).writeAns = [] := by decide

theorem witness_Wait40FollowsItsRule :
    (inPhase .wait).seq = .wait ∧ (inPhase .wait).awaiting = false ∧
    waitAnswered.seq = .wait ∧ waitAnswered.awaiting = true ∧ waitAnswered.delayAns = 0 + 1 ∧
    ({ inPhase .wait with awaiting := true } : State).awaiting = true ∧
    ({ inPhase .wait with awaiting := true } : State).delayAns = 0 := by decide

/-- One for each clause: no bytes, three bytes with a status, four with one, four without, and a word
whose N is the reserved 7. -/
theorem witness_BlkReadFollowsItsRule :
    (inPhase .read).seq = .read ∧ (inPhase .read).awaiting = false ∧
    (readAnswered 0).seq = .read ∧ (readAnswered 0).awaiting = true ∧ (readAnswered 0).readAns = 0 :: [] ∧
    (unpackReadAnswer 0).data.length < 4 ∧
    (unpackReadAnswer 0x3_01020300_FFFFFF87).data.length < 4 ∧
    unpackReadAnswer 0x4_1FFF6664_FFFFFF87 = ⟨[0x1F, 0xFF, 0x66, 0x64], 0xFFFFFF87⟩ ∧
    (0xFFFFFF87 : Status) ≠ 0 ∧
    unpackReadAnswer 0x4_3FFFFFFC_00000000 = ⟨[0x3F, 0xFF, 0xFF, 0xFC], 0⟩ ∧
    unpackReadAnswer 0x7_3FFFFFFC_00000000 = ⟨[0x3F, 0xFF, 0xFF, 0xFC], 0⟩ ∧
    ({ inPhase .read with awaiting := true } : State).awaiting = true ∧
    ({ inPhase .read with awaiting := true } : State).readAns = [] := by decide

theorem witness_MicroOperationStopsOutsideItsPhase :
    State.reset.seq ≠ .trig ∧ (inPhase .trig).seq ≠ .wait ∧ (inPhase .dec).seq ≠ .read := by decide

/-- One for each phase. -/
theorem witness_UnansweredRequestHoldsTheBlock :
    ({ inPhase .trig with awaiting := true } : State).resetReq = false ∧
    ({ inPhase .trig with awaiting := true } : State).awaiting = true ∧
    ({ inPhase .trig with awaiting := true } : State).seq = .trig ∧
    ({ inPhase .trig with awaiting := true } : State).writeAns = [] ∧
    ({ inPhase .wait with awaiting := true } : State).resetReq = false ∧
    ({ inPhase .wait with awaiting := true } : State).seq = .wait ∧
    ({ inPhase .wait with awaiting := true } : State).delayAns = 0 ∧
    ({ inPhase .read with awaiting := true } : State).resetReq = false ∧
    ({ inPhase .read with awaiting := true } : State).seq = .read ∧
    ({ inPhase .read with awaiting := true } : State).readAns = [] := by decide

/-! ## Witnesses: the dispatch and response steps -/

theorem witness_SharedDispatchDeliversEveryRequestedValue :
    (decWith .shared 0b111 ⟨0, 0, 0, 0⟩).resetReq = false ∧ (decWith .shared 0b111 ⟨0, 0, 0, 0⟩).seq = .dec ∧
    (decWith .shared 0b111 ⟨0, 0, 0, 0⟩).pol = .shared ∧ (decWith .shared 0b111 ⟨0, 0, 0, 0⟩).rawv = true ∧
    Inv (decWith .shared 0b111 ⟨0, 0, 0, 0⟩) ∧
    step (decWith .shared 0b111 ⟨0, 0, 0, 0⟩) = .next (stepped (decWith .shared 0b111 ⟨0, 0, 0, 0⟩)) :=
  ⟨rfl, rfl, rfl, rfl, by constructor <;> decide, rfl⟩

/-- One for each clause, with and without further quantities pending. -/
theorem witness_PerQuantityDispatchDeliversTheLowest :
    [0b001#3, 0b011#3, 0b101#3, 0b111#3, 0b010#3, 0b110#3, 0b100#3].all (fun m =>
      !(decWith .perQuantity m ⟨0, 0, 0, 0⟩).resetReq && (decWith .perQuantity m ⟨0, 0, 0, 0⟩).seq == .dec &&
      (decWith .perQuantity m ⟨0, 0, 0, 0⟩).pol == .perQuantity && (decWith .perQuantity m ⟨0, 0, 0, 0⟩).rawv)
      = true ∧
    (decWith .perQuantity 0b111 ⟨0, 0, 0, 0⟩).pend.getLsbD 0 = true ∧
    (decWith .perQuantity 0b001 ⟨0, 0, 0, 0⟩).pend.getLsbD 0 = true ∧
    (decWith .perQuantity 0b110 ⟨0, 0, 0, 0⟩).pend.getLsbD 0 = false ∧
    (decWith .perQuantity 0b110 ⟨0, 0, 0, 0⟩).pend.getLsbD 1 = true ∧
    (decWith .perQuantity 0b100 ⟨0, 0, 0, 0⟩).pend = 0b100 := by decide

theorem witness_ResponseStepDeliversAndClears :
    respCelsius.resetReq = false ∧ respCelsius.seq = .resp ∧ respFailed.resetReq = false ∧
    respFailed.seq = .resp := by decide

theorem witness_DispatchStopsOutsideItsPrecondition :
    (inPhase .dec).resetReq = false ∧ (inPhase .dec).seq = .dec ∧ (inPhase .dec).rawv = false ∧
    (decWith .perQuantity 0 ⟨0, 0, 0, 0⟩).rawv = true ∧ (decWith .perQuantity 0 ⟨0, 0, 0, 0⟩).pol = .perQuantity ∧
    (decWith .perQuantity 0 ⟨0, 0, 0, 0⟩).pend = 0 := by decide

/-! ## Witnesses: the decoder and the packed formats -/

theorem witness_DecoderRangesAndMonotonicity : (0 : Nat) ≤ 16383 ∧ (3971 : Nat) ≤ 3972 := by decide

/-- Samples that differ in the discarded bits. -/
theorem witness_DiscardedBitsNeverMatter :
    (0xC0 : Byte).extractLsb' 0 6 = (0x00 : Byte).extractLsb' 0 6 ∧
    (0x03 : Byte).extractLsb' 2 6 = (0x00 : Byte).extractLsb' 2 6 := by decide

theorem witness_ResponseWordRoundTrip :
    Response.wf ⟨.none, 0, .shared, 0b111, some 0, some 1249, some 999⟩ = true ∧
    Response.wf ⟨.none, 0, .perQuantity, 0b101, some 319, none, some 500⟩ = true ∧
    Response.wf ⟨.writeFail, 0xFFFFFFFA, .shared, 0, none, none, none⟩ = true ∧
    Response.wf ⟨.illegalCmd, 0, .shared, 0, none, none, none⟩ = true := by decide

theorem witness_ReadAnswerWordRoundTrip :
    ReadAnswer.wf ⟨[], 1⟩ = true ∧ ReadAnswer.wf ⟨[1, 2, 3, 4], 0⟩ = true := by decide

/-! ## Witnesses: reset and the invariants -/

/-- One in each phase whose outstanding answer is ignored, and one in IDLE. -/
theorem witness_ResetAbandonsWhatIsInProgress :
    ({ trigAnswered 0 with resetReq := true } : State).resetReq = true ∧
    ({ waitAnswered with resetReq := true } : State).resetReq = true ∧
    ({ readAnswered 0 with resetReq := true } : State).resetReq = true ∧
    ({ idleWith 0b0111 with resetReq := true } : State).resetReq = true := by decide

/-- A `read_all` under SHARED that has just received its sample, as a run leaves it. -/
def decReached : State :=
  { decWith .shared 0b111 ⟨0x20, 0x00, 0x66, 0x64⟩ with
    trace := [.cmd 0b0111, .request (.busWrite 0x27 0 0), .writeAns 0, .request (.delay 40), .delayDone,
      .request (.busRead 0x27 0 4), .readAns ⟨[0x20, 0x00, 0x66, 0x64], 0⟩] }

theorem decReached_inv : Inv decReached := by constructor <;> decide
theorem decReached_inOrder : InOrder decReached := by unfold InOrder; decide
theorem decReached_counted : Counted decReached := by unfold Counted; decide

theorem witness_StepKeepsTheRegisterInvariant :
    Inv decReached ∧ step decReached = .next (stepped decReached) := ⟨decReached_inv, rfl⟩

theorem witness_InputsKeepTheInvariants : Inv decReached ∧ InOrder decReached ∧ Counted decReached :=
  ⟨decReached_inv, decReached_inOrder, decReached_counted⟩

theorem witness_StepKeepsTheEventOrder :
    Inv decReached ∧ InOrder decReached ∧ step decReached = .next (stepped decReached) :=
  ⟨decReached_inv, decReached_inOrder, rfl⟩

theorem witness_StepKeepsTheAcquisitionCount :
    Inv decReached ∧ Counted decReached ∧ step decReached = .next (stepped decReached) :=
  ⟨decReached_inv, decReached_counted, rfl⟩

theorem witness_InvariantStatesAlwaysStep : Inv decReached ∧ Inv State.reset :=
  ⟨decReached_inv, by constructor <;> decide⟩

/-- Stepping keeps a state reachable. -/
theorem reachable_stepped {s : State} (h : Reachable s) : Reachable (stepped s) := by
  unfold stepped after
  cases hs : step s with
  | next t => exact .stepped h hs
  | fault r => exact h
  | refused r => exact h

/-- The state a run from reset reaches once a caller has presented `read_temp_c`, the transport has
answered the trigger write with a status, and three steps are taken. -/
def afterTrigger (st : Status) : State :=
  stepped (stepped (stepped ((State.reset.input (.present 0 0b0010)).input (.writeAnswer st))))

theorem afterTrigger_reachable (st : Status) : Reachable (afterTrigger st) :=
  reachable_stepped (reachable_stepped (reachable_stepped (.fed _ (.fed _ .start))))

/-- The state that run reaches in RESP when the transport and the delay answer as they should. -/
def atResponse : State :=
  stepped (stepped (stepped (stepped (stepped
    (((afterTrigger 0).input .delayDone).input (.readAnswer 0x4_20006664_00000000))))))

theorem atResponse_reachable : Reachable atResponse :=
  reachable_stepped (reachable_stepped (reachable_stepped (reachable_stepped (reachable_stepped
    (.fed _ (.fed _ (afterTrigger_reachable 0)))))))

theorem witness_ReachableStatesMeetTheInvariants : Reachable State.reset ∧ Reachable atResponse :=
  ⟨.start, atResponse_reachable⟩

theorem witness_SuccessfulQueryPerformsItsAcquisitions :
    Reachable atResponse ∧ atResponse.seq = .resp ∧ atResponse.err = .none :=
  ⟨atResponse_reachable, by decide, by decide⟩

theorem witness_ErrorResponseCarriesNoValue :
    Reachable (afterTrigger 1) ∧ (afterTrigger 1).seq = .resp ∧ (afterTrigger 1).err ≠ .none :=
  ⟨afterTrigger_reachable 1, by decide, by decide⟩

/-- A request and a response of a run. -/
theorem witness_EmittedRecordsAreWellFormed :
    Reachable (stepped atResponse) ∧ .request (.delay 40) ∈ (stepped atResponse).trace ∧
    .resp ⟨.none, 0, .shared, 0b010, none, some 259, none⟩ ∈ (stepped atResponse).trace :=
  ⟨reachable_stepped atResponse_reachable, by decide, by decide⟩

/-! ## Witnesses: frames over all steps -/

/-- One step from each phase. -/
theorem witness_PhaseChangesAsTabulated :
    (idleWith 0b0001).resetReq = false ∧ step (idleWith 0b0001) = .next (stepped (idleWith 0b0001)) ∧
    step (trigAnswered 0) = .next (stepped (trigAnswered 0)) ∧ step waitAnswered = .next (stepped waitAnswered) ∧
    step (readAnswered 0) = .next (stepped (readAnswered 0)) ∧ step decReached = .next (stepped decReached) ∧
    step respCelsius = .next (stepped respCelsius) ∧ (trigAnswered 0).resetReq = false ∧
    waitAnswered.resetReq = false ∧ (readAnswered 0).resetReq = false ∧ decReached.resetReq = false ∧
    respCelsius.resetReq = false := ⟨rfl, rfl, rfl, rfl, rfl, rfl, rfl, rfl, rfl, rfl, rfl, rfl⟩

theorem witness_StepOnlyAppendsToTheTrace : step (idleWith 0b1001) = .next (stepped (idleWith 0b1001)) := rfl

theorem witness_PolicyChangesOnlyBySetPolicy :
    (idleWith 0b1001).resetReq = false ∧ step (idleWith 0b1001) = .next (stepped (idleWith 0b1001)) ∧
    (stepped (idleWith 0b1001)).cfgPolicy ≠ (idleWith 0b1001).cfgPolicy := ⟨rfl, rfl, by decide⟩

theorem witness_SampleIsWrittenByBlkReadOnly :
    (readAnswered 0x4_3FFFFFFC_00000000).resetReq = false ∧
    step (readAnswered 0x4_3FFFFFFC_00000000) = .next (stepped (readAnswered 0x4_3FFFFFFC_00000000)) ∧
    (stepped (readAnswered 0x4_3FFFFFFC_00000000)).b ≠ (readAnswered 0x4_3FFFFFFC_00000000).b ∧
    (readAnswered 0x4_3FFFFFFC_00000000).rawv = false ∧
    (stepped (readAnswered 0x4_3FFFFFFC_00000000)).rawv = true := ⟨rfl, rfl, by decide, rfl, by decide⟩

theorem witness_OutputsAreWrittenByDispatchOnly :
    decReached.resetReq = false ∧ step decReached = .next (stepped decReached) ∧
    (stepped decReached).outTF ≠ decReached.outTF ∧ (stepped decReached).outTC ≠ decReached.outTC ∧
    (stepped decReached).outH ≠ decReached.outH ∧ decReached.vf = false ∧ (stepped decReached).vf = true :=
  ⟨rfl, rfl, by decide, by decide, by decide, rfl, by decide⟩

theorem witness_LatchesChangeOnlyAtAcceptance :
    (idleWith 0b0111).resetReq = false ∧ step (idleWith 0b0111) = .next (stepped (idleWith 0b0111)) ∧
    (stepped (idleWith 0b0111)).cmdr ≠ (idleWith 0b0111).cmdr := ⟨rfl, rfl, by decide⟩

theorem witness_ErrorsComeFromAnswersOnly :
    (trigAnswered 1).resetReq = false ∧ step (trigAnswered 1) = .next (stepped (trigAnswered 1)) ∧
    (trigAnswered 1).err = .none ∧ (stepped (trigAnswered 1)).err ≠ .none ∧
    (readAnswered 0).resetReq = false ∧ step (readAnswered 0) = .next (stepped (readAnswered 0)) ∧
    (readAnswered 0).err = .none ∧ (stepped (readAnswered 0)).err ≠ .none :=
  ⟨rfl, rfl, rfl, by decide, rfl, rfl, rfl, by decide⟩

/-- One in DEC, one in RESP and one in TRIG. -/
theorem witness_SingleQuantityIgnoresThePolicy :
    (decWith .shared 0b010 ⟨0, 0, 0, 0⟩).seq ≠ .idle ∧ maskCount (decWith .shared 0b010 ⟨0, 0, 0, 0⟩).pend = 1 ∧
    (decWith .shared 0b010 ⟨0, 0, 0, 0⟩).seq ≠ .resp ∧ respCelsius.seq ≠ .idle ∧ respCelsius.seq ≠ .dec ∧
    (inPhase .trig).seq ≠ .idle ∧ (inPhase .trig).seq ≠ .dec ∧ (inPhase .trig).seq ≠ .resp := by decide

/-! ## Witnesses: whole commands -/

/-- An idle block with a policy, one command word and answers for three successful acquisitions. -/
def ready (p : Policy) (w : CmdWord) : State :=
  { idleWith w with
    cfgPolicy := p, writeAns := [0, 0, 0], delayAns := 3
    readAns := [fullAnswer 0x20 0x00 0x66 0x64, fullAnswer 0x20 0x00 0x3E 0x13, fullAnswer 0x3F 0xFF 0xFF 0xFC] }

theorem ready_inv (p : Policy) (w : CmdWord) : Inv (ready p w) := by
  cases p <;> constructor <;> revert w <;> decide

/-- Each of the five query words. -/
theorem witness_SharedQueryRunsToItsResponse :
    Inv (ready .shared 0b0111) ∧
    [0b0001#4, 0b0010#4, 0b0100#4, 0b0101#4, 0b0111#4].all (fun w =>
      !(ready .shared w).resetReq && (ready .shared w).seq == .idle && (ready .shared w).cfgPolicy == .shared &&
      (ready .shared w).callers == [w :: []] && (ready .shared w).writeAns == 0 :: [0, 0] &&
      (ready .shared w).delayAns == 2 + 1 &&
      (ready .shared w).readAns ==
        fullAnswer 0x20 0x00 0x66 0x64 :: [fullAnswer 0x20 0x00 0x3E 0x13, fullAnswer 0x3F 0xFF 0xFF 0xFC])
      = true ∧
    unpackReadAnswer (fullAnswer 0x20 0x00 0x66 0x64) = ⟨[0x20, 0x00, 0x66, 0x64], 0⟩ :=
  ⟨ready_inv _ _, by decide, by decide⟩

theorem witness_PerQuantityReadAllRunsToItsResponse :
    Inv (ready .perQuantity 0b0111) ∧ (ready .perQuantity 0b0111).resetReq = false ∧
    (ready .perQuantity 0b0111).seq = .idle ∧ (ready .perQuantity 0b0111).cfgPolicy = .perQuantity ∧
    (ready .perQuantity 0b0111).callers = [0b0111#4 :: []] ∧
    (ready .perQuantity 0b0111).writeAns = 0 :: 0 :: 0 :: [] ∧ (ready .perQuantity 0b0111).delayAns = 0 + 3 ∧
    (ready .perQuantity 0b0111).readAns =
      fullAnswer 0x20 0x00 0x66 0x64 :: fullAnswer 0x20 0x00 0x3E 0x13 :: fullAnswer 0x3F 0xFF 0xFF 0xFC :: [] ∧
    unpackReadAnswer (fullAnswer 0x20 0x00 0x66 0x64) = ⟨[0x20, 0x00, 0x66, 0x64], 0⟩ ∧
    unpackReadAnswer (fullAnswer 0x20 0x00 0x3E 0x13) = ⟨[0x20, 0x00, 0x3E, 0x13], 0⟩ ∧
    unpackReadAnswer (fullAnswer 0x3F 0xFF 0xFF 0xFC) = ⟨[0x3F, 0xFF, 0xFF, 0xFC], 0⟩ :=
  ⟨ready_inv _ _, rfl, rfl, rfl, rfl, rfl, rfl, rfl, by decide, by decide, by decide⟩

theorem witness_FailedTriggerEndsTheCommand :
    ({ idleWith 0b0101 with writeAns := [0xFFFFFFFA] } : State).resetReq = false ∧
    ({ idleWith 0b0101 with writeAns := [0xFFFFFFFA] } : State).seq = .idle ∧
    ({ idleWith 0b0101 with writeAns := [0xFFFFFFFA] } : State).awaiting = false ∧
    ({ idleWith 0b0101 with writeAns := [0xFFFFFFFA] } : State).callers = [0b0101 :: []] ∧
    0b0101#4 ∈ [0b0001#4, 0b0010#4, 0b0100#4, 0b0101#4, 0b0111#4] ∧
    ({ idleWith 0b0101 with writeAns := [0xFFFFFFFA] } : State).writeAns = 0xFFFFFFFA :: [] ∧
    (0xFFFFFFFA : Status) ≠ 0 := by decide

/-- One for each clause, with a value of an earlier acquisition held. -/
theorem witness_LaterFailureDropsEarlierValues :
    ({ trigAnswered 1 with vf := true } : State).resetReq = false ∧
    ({ trigAnswered 1 with vf := true } : State).awaiting = true ∧
    ({ trigAnswered 1 with vf := true } : State).seq = .trig ∧
    ({ trigAnswered 1 with vf := true } : State).writeAns = 1 :: [] ∧ (1 : Status) ≠ 0 ∧
    (readAnswered 0x3_3FFFFF00_00000000).awaiting = true ∧ (readAnswered 0x3_3FFFFF00_00000000).seq = .read ∧
    (readAnswered 0x3_3FFFFF00_00000000).readAns = 0x3_3FFFFF00_00000000 :: [] ∧
    readCount 0x3_3FFFFF00_00000000 < 4 ∧
    (readAnswered 0x4_1FFF6664_FFFFFF87).readAns = 0x4_1FFF6664_FFFFFF87 :: [] ∧
    readCount 0x4_1FFF6664_FFFFFF87 = 4 ∧
    (0x4_1FFF6664_FFFFFF87 : ReadWord).extractLsb' 0 32 ≠ 0 := by decide

/-- At the start of the first of three acquisitions, and at the response. -/
theorem witness_AnsweredCommandReturnsToIdle :
    Inv (stepped (ready .perQuantity 0b0111)) ∧ (stepped (ready .perQuantity 0b0111)).resetReq = false ∧
    (stepped (ready .perQuantity 0b0111)).seq ≠ .idle ∧
    3 ≤ (stepped (ready .perQuantity 0b0111)).writeAns.length ∧
    3 ≤ (stepped (ready .perQuantity 0b0111)).delayAns ∧
    3 ≤ (stepped (ready .perQuantity 0b0111)).readAns.length := by
  refine ⟨by constructor <;> decide, ?_⟩
  decide

/-- One for each clause: the three single-quantity words, and `read_temp_humid`. -/
theorem witness_PerQuantityQueryRunsToItsResponse :
    Inv (ready .perQuantity 0b0001) ∧ Inv (ready .perQuantity 0b0010) ∧ Inv (ready .perQuantity 0b0100) ∧
    Inv (ready .perQuantity 0b0101) ∧
    [0b0001#4, 0b0010#4, 0b0100#4, 0b0101#4].all (fun w =>
      !(ready .perQuantity w).resetReq && (ready .perQuantity w).seq == .idle &&
      (ready .perQuantity w).cfgPolicy == .perQuantity && (ready .perQuantity w).callers == [w :: []] &&
      (ready .perQuantity w).writeAns == 0 :: 0 :: [0] && (ready .perQuantity w).delayAns == 2 + 1 &&
      (ready .perQuantity w).delayAns == 1 + 2 &&
      (ready .perQuantity w).readAns ==
        fullAnswer 0x20 0x00 0x66 0x64 :: fullAnswer 0x20 0x00 0x3E 0x13 :: [fullAnswer 0x3F 0xFF 0xFF 0xFC])
      = true ∧
    unpackReadAnswer (fullAnswer 0x20 0x00 0x66 0x64) = ⟨[0x20, 0x00, 0x66, 0x64], 0⟩ ∧
    unpackReadAnswer (fullAnswer 0x20 0x00 0x3E 0x13) = ⟨[0x20, 0x00, 0x3E, 0x13], 0⟩ :=
  ⟨ready_inv _ _, ready_inv _ _, ready_inv _ _, ready_inv _ _, by decide, by decide, by decide⟩

end Sys2Proof.Tests
end

/-! Proofs of the statements of spec/00_scope.md: what the agents outside the block can change, and what a
step records in the trace. -/

namespace Sys2Proof.Proofs

open Sys2Proof.Machine Sys2Proof.Safety

/-! ## Inputs -/

/-- R8: an input reaches the ports only. -/
theorem sameBlock_input (i : Input) (s : State) : sameBlock s (s.input i) := by
  cases i <;> rfl

@[simp] theorem input_trace (i : Input) (s : State) : (s.input i).trace = s.trace := by
  cases i <;> rfl

@[simp] theorem input_draws (i : Input) (s : State) : (s.input i).draws = s.draws := by
  cases i <;> rfl

/-- Settles O35: an input writes ports only, and a late answer not even these. -/
theorem inputsReachThePortsOnly : Obligations.InputsReachThePortsOnly :=
  ⟨fun i s => ⟨sameBlock_input i s, input_trace i s, input_draws i s⟩, fun _ => rfl⟩

/-! ## The invariants depend on the block's registers and the trace only -/

/-- The invariant of the registers says nothing of the ports. -/
theorem inv_of_sameBlock {s t : State} (hst : sameBlock s t) (hs : Inv s) : Inv t := by
  rw [hst]
  exact { hs with }

/-- Where the trace must stand is said by the registers. -/
theorem progressOf_of_sameBlock {s t : State} (hst : sameBlock s t) : progressOf t = progressOf s := by
  rw [hst]
  rfl

theorem inOrder_of_sameBlock {s t : State} (hst : sameBlock s t) (htr : t.trace = s.trace)
    (hs : InOrder s) : InOrder t := by
  unfold InOrder
  rw [htr, progressOf_of_sameBlock hst]
  exact hs

theorem counted_of_sameBlock {s t : State} (hst : sameBlock s t) (htr : t.trace = s.trace)
    (hs : Counted s) : Counted t := by
  rw [hst, htr]
  exact hs

/-- Settles O38: an input changes neither the registers nor the trace, and the invariants speak of these
alone. -/
theorem inputsKeepTheInvariants : Obligations.InputsKeepTheInvariants := fun i s =>
  have hst : sameBlock s (s.input i) := sameBlock_input i s
  have htr : (s.input i).trace = s.trace := input_trace i s
  ⟨inv_of_sameBlock hst, inOrder_of_sameBlock hst htr, counted_of_sameBlock hst htr⟩

/-! ## What a step records -/

/-- The events one step from `s` may add to the trace (R8, R35, R105, log entries 5 and 6): nothing, the mark
of a reset, an accepted command word with the response it has at once if it is no query, a request or the
answer to one in the phase of its micro-operation, or the response of the response step. -/
inductive StepEvents (s : State) : List Event → Prop where
  | silent : StepEvents s []
  | reset (hr : s.resetReq = true) : StepEvents s [.reset]
  | query (hs : s.seq = .idle) (w : CmdWord) : StepEvents s [.cmd w]
  | answered (hs : s.seq = .idle) (w : CmdWord) (r : Response) : StepEvents s [.cmd w, .resp r]
  | trigRequest (hs : s.seq = .trig) : StepEvents s [.request trigRequest]
  | writeAns (hs : s.seq = .trig) (st : Status) : StepEvents s [.writeAns st]
  | waitRequest (hs : s.seq = .wait) : StepEvents s [.request waitRequest]
  | delayDone (hs : s.seq = .wait) : StepEvents s [.delayDone]
  | readRequest (hs : s.seq = .read) : StepEvents s [.request readRequest]
  | readAns (hs : s.seq = .read) (a : ReadAnswer) : StepEvents s [.readAns a]
  | response (hs : s.seq = .resp) : StepEvents s [.resp s.response]

/-- At most one input event and one output event (R8). -/
theorem StepEvents.length_le {s : State} {es : List Event} (h : StepEvents s es) : es.length ≤ 2 := by
  cases h <;> simp

/-- `t` is `s` with the events of one step at the end of its trace. -/
def Records (s t : State) : Prop := ∃ es, t.trace = s.trace ++ es ∧ StepEvents s es

theorem Records.of_trace_eq {s t : State} (h : t.trace = s.trace) : Records s t :=
  ⟨[], by simp [h], .silent⟩

/-- Storing the sample or raising the failure records nothing beyond the answer. -/
@[simp] theorem afterRead_trace (a : ReadAnswer) (s : State) : (s.afterRead a).trace = s.trace := by
  rcases afterRead_cases a s with ⟨-, h⟩ | ⟨-, -, h⟩ | ⟨_, _, _, _, _, -, -, h⟩ <;> simp [h]

theorem execTrigWrite_records {s t : State} (h : execTrigWrite s = .next t) : Records s t := by
  obtain ⟨hs, ⟨-, rfl⟩ | ⟨-, -, rfl⟩ | ⟨st, rest, -, -, ⟨-, rfl⟩ | ⟨-, rfl⟩⟩⟩ := execTrigWrite_next h
  · exact ⟨_, by simp, .trigRequest hs⟩
  · exact .of_trace_eq rfl
  · exact ⟨_, by simp, .writeAns hs st⟩
  · exact ⟨_, by simp, .writeAns hs st⟩

theorem execWait40_records {s t : State} (h : execWait40 s = .next t) : Records s t := by
  obtain ⟨hs, ⟨-, rfl⟩ | ⟨-, -, rfl⟩ | ⟨n, -, -, rfl⟩⟩ := execWait40_next h
  · exact ⟨_, by simp, .waitRequest hs⟩
  · exact .of_trace_eq rfl
  · exact ⟨_, by simp, .delayDone hs⟩

theorem execBlkRead_records {s t : State} (h : execBlkRead s = .next t) : Records s t := by
  obtain ⟨hs, ⟨-, rfl⟩ | ⟨-, -, rfl⟩ | ⟨w, rest, -, -, rfl⟩⟩ := execBlkRead_next h
  · exact ⟨_, by simp, .readRequest hs⟩
  · exact .of_trace_eq rfl
  · exact ⟨_, by simp, .readAns hs (unpackReadAnswer w)⟩

/-- The dispatch step records nothing (R107, R108). -/
theorem dispatchStep_trace {s t : State} (h : dispatchStep s = .next t) : t.trace = s.trace := by
  obtain ⟨-, ⟨-, rfl⟩ | ⟨q, -, -, rfl⟩⟩ := dispatchStep_next h
  · simp [State.dispatchShared]
  · simp [State.dispatchOne]

/-- Every step records the events its phase allows. -/
theorem step_records {s t : State} (h : step s = .next t) : Records s t := by
  obtain ⟨hr, rfl⟩ | ⟨-, ⟨-, rfl⟩ | ⟨hs, w, rest, i, -, -, -, rfl⟩ | ⟨hs, w, rest, p, -, -, rfl⟩ |
    ⟨hs, w, rest, -, -, rfl⟩ | htrig | hwait | hread | ⟨-, hdec⟩ | ⟨hs, rfl⟩⟩ := step_cases h
  · exact ⟨_, by simp, .reset hr⟩
  · exact .of_trace_eq rfl
  · exact ⟨_, by simp, .query hs w⟩
  · exact ⟨_, by simp, .answered hs w (bareResponse .none p)⟩
  · exact ⟨_, by simp, .answered hs w (bareResponse .illegalCmd s.cfgPolicy)⟩
  · exact execTrigWrite_records htrig
  · exact execWait40_records hwait
  · exact execBlkRead_records hread
  · exact .of_trace_eq (dispatchStep_trace hdec)
  · exact ⟨_, by simp, .response hs⟩

/-- Settles O47: a step adds the events of its phase, and these are at most two. -/
theorem stepOnlyAppendsToTheTrace : Obligations.StepOnlyAppendsToTheTrace := fun _ _ h =>
  have ⟨es, htr, hes⟩ := step_records h
  ⟨es, htr, hes.length_le⟩

end Sys2Proof.Proofs

/-! Proofs of the statements of spec/10_state.md, first part: the invariant of the registers. -/

namespace Sys2Proof.Proofs

open Sys2Proof.Machine Sys2Proof.Safety

/-! ## The ranges of the decoder (R96) -/

theorem unpackH_le (b0 b1 : Byte) : unpackH b0 b1 ≤ 16383 := by
  have hhi : (b0.toNat &&& 0x3F) <<< 8 < 2 ^ 14 := by
    rw [Nat.shiftLeft_eq]
    have := Nat.and_le_right (n := b0.toNat) (m := 0x3F)
    omega
  have hlo : b1.toNat < 2 ^ 14 := by omega
  exact Nat.le_of_lt_succ (Nat.or_lt_two_pow hhi hlo)

theorem unpackT_le (b2 b3 : Byte) : unpackT b2 b3 ≤ 16383 := by
  have hhi := Nat.and_le_right (n := b2.toNat) (m := 0xFF)
  have hlo := Nat.and_le_right (n := b3.toNat) (m := 0xFC)
  simp only [unpackT, Nat.shiftLeft_eq, Nat.shiftRight_eq_div_pow]
  omega

theorem convH_le {n : Nat} (h : n ≤ 16383) : convH n ≤ 999 := by
  simp only [convH, Nat.shiftRight_eq_div_pow]
  omega

theorem convC_range {n : Nat} (h : n ≤ 16383) : -400 ≤ convC n ∧ convC n ≤ 1249 := by
  simp only [convC, Nat.shiftRight_eq_div_pow]
  omega

theorem convF_range {c : Int} (hlo : -400 ≤ c) (hhi : c ≤ 1249) : -400 ≤ convF c ∧ convF c ≤ 2568 := by
  unfold convF
  rw [Int.tdiv_eq_ediv]
  split
  · omega
  · rw [Int.sign_eq_one_of_pos (by omega)]
    omega

theorem sext16_toInt {x : Int} (hlo : -400 ≤ x) (hhi : x ≤ 2568) : (sext16 x).toInt = x := by
  rw [sext16, BitVec.toInt_ofInt]
  exact Int.bmod_eq_of_le (by omega) (by omega)

theorem zext16_toNat {n : Nat} (h : n ≤ 999) : (zext16 n).toNat = n := by
  rw [zext16, BitVec.toNat_ofNat]
  exact Nat.mod_eq_of_lt (by omega)

/-- R17, R96: every output register that holds a value holds one of its range. -/
structure OutputsInRange (s : State) : Prop where
  tf : s.vf = true → -400 ≤ s.outTF.toInt ∧ s.outTF.toInt ≤ 2568
  tc : s.vc = true → -400 ≤ s.outTC.toInt ∧ s.outTC.toInt ≤ 1249
  h : s.vh = true → s.outH.toNat ≤ 999

theorem outputsInRange_of_inv {s : State} (h : Inv s) : OutputsInRange s :=
  ⟨h.tf_range, h.tc_range, h.h_range⟩

theorem outputsInRange_of_valid_eq_zero {s : State} (hv : s.valid = 0) : OutputsInRange s := by
  obtain ⟨hf, hc, hh⟩ := (valid_eq_zero_iff s).1 hv
  constructor <;> simp [hf, hc, hh]

/-- A value off a sample is in the range of the register it is written to. -/
theorem outputsInRange_putOut {s : State} (h : OutputsInRange s) (x : RawSample) (q : Quantity) :
    OutputsInRange (s.putOut (decodeSample x) q) := by
  have ⟨hclo, hchi⟩ := convC_range (unpackT_le x.b2 x.b3)
  have ⟨hflo, hfhi⟩ := convF_range hclo hchi
  cases q with
  | f => exact { h with tf := fun _ => (sext16_toInt hflo hfhi).symm ▸ ⟨hflo, hfhi⟩ }
  | c => exact { h with tc := fun _ => (sext16_toInt hclo (by omega)).symm ▸ ⟨hclo, hchi⟩ }
  | h =>
    have hh := convH_le (unpackH_le x.b0 x.b1)
    exact { h with h := fun _ => (zext16_toNat hh).symm ▸ hh }

theorem outputsInRange_putIfPending {s : State} (h : OutputsInRange s) (x : RawSample) (q : Quantity) :
    OutputsInRange (s.putIfPending q (decodeSample x)) := by
  unfold State.putIfPending
  split
  · exact outputsInRange_putOut h x q
  · exact h

/-! ## The invariant at rest, at the start of a query, and while a command works -/

/-- An idle block that holds nothing meets the invariant whatever is left in its other registers (R23). -/
theorem inv_of_idle {s : State} (hs : s.seq = .idle)
    (h : s.pend = 0 ∧ s.rawv = false ∧ s.valid = 0 ∧ s.err = .none ∧ s.stat = 0 ∧ s.awaiting = false) :
    Inv s := by
  obtain ⟨hp, hr, hv, he, hst, ha⟩ := h
  have hrange := outputsInRange_of_valid_eq_zero hv
  exact
    { idle_holds_nothing := fun _ => ⟨hp, hr, hv, he, hst, ha⟩
      outstanding_phase := by simp [ha]
      sample_in_dec := by simp [hr, hs]
      pending_while_working := by simp [hp, hs, working]
      error_form := .inl ⟨he, hst⟩
      quantities_split := fun hn => absurd hs hn
      shared_all_at_once := fun _ _ => hv
      query_in_progress := fun hn => absurd hs hn
      policy_latched := fun hn => absurd hs hn
      tf_range := hrange.tf
      tc_range := hrange.tc
      h_range := hrange.h }

theorem ne_zero_of_mem_queryMasks {m : QMask} (hm : m ∈ queryMasks) : m ≠ 0 := by
  rintro rfl
  exact absurd hm (by decide)

/-- The mask of a query is one of the five of R52. -/
theorem queryMask_mem {i : Instr} {m : QMask} (h : queryMask i = some m) : m ∈ queryMasks := by
  cases i <;> simp only [queryMask, Option.some.injEq, reduceCtorEq] at h <;> subst h <;> decide

theorem inv_startQuery {s : State} {m : QMask} (hm : m ∈ queryMasks) (ha : s.awaiting = false) :
    Inv (s.startQuery m) :=
  have hrange : OutputsInRange (s.startQuery m) := outputsInRange_of_valid_eq_zero (valid_startQuery s m)
  { idle_holds_nothing := by simp
    outstanding_phase := by simp [ha]
    sample_in_dec := by simp
    pending_while_working := ⟨fun _ => rfl, fun _ => ne_zero_of_mem_queryMasks hm⟩
    error_form := .inl ⟨rfl, rfl⟩
    quantities_split := by simp
    shared_all_at_once := by simp
    query_in_progress := fun _ => hm
    policy_latched := fun _ => rfl
    tf_range := hrange.tf
    tc_range := hrange.tc
    h_range := hrange.h }

/-- A state that differs only in where its acquisition stands: the phase, the outstanding request and the
sample, the ports and the model's own record. -/
def sameCommand (s t : State) : Prop :=
  t = { s with
    b := t.b, rawv := t.rawv, seq := t.seq, awaiting := t.awaiting
    resetReq := t.resetReq, callers := t.callers, writeAns := t.writeAns, readAns := t.readAns
    delayAns := t.delayAns, trace := t.trace, draws := t.draws }

theorem ne_idle_of_working {p : Phase} (h : working p = true) : p ≠ .idle := by
  rintro rfl
  exact absurd h (by decide)

theorem ne_resp_of_working {p : Phase} (h : working p = true) : p ≠ .resp := by
  rintro rfl
  exact absurd h (by decide)

/-- Only a command that failed and waits for its response has an error (R16). -/
theorem err_none_of_ne_resp {s : State} (h : Inv s) (hs : s.seq ≠ .resp) : s.err = .none ∧ s.stat = 0 :=
  h.error_form.resolve_right fun ⟨_, _, hresp, _⟩ => hs hresp

theorem awaiting_eq_false {s : State} (h : Inv s) (ht : s.seq ≠ .trig) (hw : s.seq ≠ .wait)
    (hr : s.seq ≠ .read) : s.awaiting = false := by
  by_contra ha
  rcases h.outstanding_phase (by simpa using ha) with hs | hs | hs
  · exact ht hs
  · exact hw hs
  · exact hr hs

/-- While the command works, an acquisition that moves on keeps the invariant if its request and its sample
are where they belong. -/
theorem inv_of_sameCommand {s t : State} (h : Inv s) (hst : sameCommand s t) (hs : working s.seq = true)
    (ht : working t.seq = true) (hout : t.awaiting = true → t.seq = .trig ∨ t.seq = .wait ∨ t.seq = .read)
    (hsample : t.rawv = true ↔ t.seq = .dec) : Inv t := by
  have hsn := ne_idle_of_working hs
  have htn := ne_idle_of_working ht
  have herr := err_none_of_ne_resp h (ne_resp_of_working hs)
  rw [hst]
  exact
    { h with
      idle_holds_nothing := fun hi => absurd hi htn
      outstanding_phase := hout
      sample_in_dec := hsample
      pending_while_working := ⟨fun _ => ht, fun _ => h.pending_while_working.2 hs⟩
      error_form := .inl herr
      quantities_split := fun _ => h.quantities_split hsn
      shared_all_at_once := fun hp _ => h.shared_all_at_once hp hs
      query_in_progress := fun _ => h.query_in_progress hsn
      policy_latched := fun _ => h.policy_latched hsn }

/-! ## The invariant at the end of an acquisition -/

/-- Trap entry keeps the invariant (R129). -/
theorem inv_trapEntry {s : State} {k : ErrKind} {st : Status} (h : Inv s) (hs : s.seq ≠ .idle)
    (ha : s.awaiting = false) (hk : k = .writeFail ∨ k = .readFail) (hst : st ≠ 0) :
    Inv (s.trapEntry k st) :=
  have hrange : OutputsInRange (s.trapEntry k st) := outputsInRange_of_valid_eq_zero (valid_trapEntry s k st)
  { idle_holds_nothing := by simp
    outstanding_phase := by simp [ha]
    sample_in_dec := by simp
    pending_while_working := by simp [working]
    error_form := .inr ⟨hk, hst, rfl, valid_trapEntry s k st⟩
    quantities_split := fun _ he => by rcases hk with rfl | rfl <;> simp at he
    shared_all_at_once := fun _ _ => valid_trapEntry s k st
    query_in_progress := fun _ => h.query_in_progress hs
    policy_latched := fun _ => h.policy_latched hs
    tf_range := hrange.tf
    tc_range := hrange.tc
    h_range := hrange.h }

/-- A further acquisition starts exactly if a quantity is still pending (R107, R108). -/
theorem working_after_dispatch (m : QMask) :
    working (if m = 0 then .resp else .trig) = true ↔ m ≠ 0 := by
  revert m
  decide

/-- The end of the dispatch step brings the invariant back once the quantities produced have moved from PEND
to the valid bits (R107, R108). -/
theorem inv_endDispatch {s : State} {m : QMask} (ha : s.awaiting = false) (he : s.err = .none)
    (hst : s.stat = 0) (hq : s.cmdr ∈ queryMasks) (hpol : s.pol = s.cfgPolicy)
    (hsplit : s.cmdr = m ||| s.valid ∧ m &&& s.valid = 0) (hshared : s.pol = .shared → m = 0)
    (hrange : OutputsInRange s) : Inv (s.endDispatch m) :=
  have hseq : ∀ p, p ≠ .resp → p ≠ .trig → (s.endDispatch m).seq ≠ p := fun p hresp htrig => by
    rw [State.endDispatch_seq]
    split
    · exact hresp.symm
    · exact htrig.symm
  { idle_holds_nothing := fun hi => absurd hi (hseq _ (by decide) (by decide))
    outstanding_phase := by simp [ha]
    sample_in_dec := by simpa using hseq .dec (by decide) (by decide)
    pending_while_working := (working_after_dispatch m).symm
    error_form := .inl ⟨he, hst⟩
    quantities_split := fun _ _ => hsplit
    shared_all_at_once := fun hp hw => by simp [hshared hp, working] at hw
    query_in_progress := fun _ => hq
    policy_latched := fun _ => hpol
    tf_range := hrange.tf
    tc_range := hrange.tc
    h_range := hrange.h }

/-! ## The invariant after each step -/

theorem inv_applyReset (s : State) : Inv s.applyReset :=
  inv_of_idle rfl ⟨rfl, rfl, valid_applyReset s, rfl, rfl, rfl⟩

theorem inv_respond {s : State} (h : Inv s) (hs : s.seq = .resp) : Inv s.respond :=
  have ha : s.awaiting = false := awaiting_eq_false h (by simp [hs]) (by simp [hs]) (by simp [hs])
  inv_of_idle rfl ⟨rfl, rfl, valid_respond s, rfl, rfl, ha⟩

theorem rawv_eq_false {s : State} (h : Inv s) (hs : s.seq ≠ .dec) : s.rawv = false := by
  by_contra hr
  exact hs (h.sample_in_dec.1 (by simpa using hr))

theorem working_of_transport {p : Phase} (h : p = .trig ∨ p = .wait ∨ p = .read) :
    working p = true ∧ p ≠ .dec := by
  rcases h with rfl | rfl | rfl <;> decide

/-- An acquisition that goes on, or starts, outside DEC keeps the invariant. -/
theorem inv_of_acquiring {s t : State} (h : Inv s) (hst : sameCommand s t)
    (hs : s.seq = .trig ∨ s.seq = .wait ∨ s.seq = .read) (ht : t.seq = .trig ∨ t.seq = .wait ∨ t.seq = .read)
    (hr : t.rawv = false) : Inv t := by
  have ⟨hws, _⟩ := working_of_transport hs
  have ⟨hwt, htd⟩ := working_of_transport ht
  exact inv_of_sameCommand h hst hws hwt (fun _ => ht) (by simp [hr, htd])

theorem execTrigWrite_inv {s t : State} (h : Inv s) (hx : execTrigWrite s = .next t) : Inv t := by
  obtain ⟨hs, hcases⟩ := execTrigWrite_next hx
  have hr : s.rawv = false := rawv_eq_false h (by simp [hs])
  obtain ⟨-, rfl⟩ | ⟨-, -, rfl⟩ | ⟨st, rest, -, -, ⟨-, rfl⟩ | ⟨hst, rfl⟩⟩ := hcases
  · exact inv_of_acquiring h rfl (.inl hs) (.inl hs) rfl
  · exact h
  · exact inv_of_acquiring h rfl (.inl hs) (.inr (.inl rfl)) hr
  · have htaken : Inv (s.takeWriteAns st rest) := inv_of_acquiring h rfl (.inl hs) (.inl hs) hr
    exact inv_trapEntry htaken (by simp [hs]) rfl (.inl rfl) hst

theorem execWait40_inv {s t : State} (h : Inv s) (hx : execWait40 s = .next t) : Inv t := by
  obtain ⟨hs, hcases⟩ := execWait40_next hx
  have hr : s.rawv = false := rawv_eq_false h (by simp [hs])
  obtain ⟨-, rfl⟩ | ⟨-, -, rfl⟩ | ⟨n, -, -, rfl⟩ := hcases
  · exact inv_of_acquiring h rfl (.inr (.inl hs)) (.inr (.inl hs)) hr
  · exact h
  · exact inv_of_acquiring h rfl (.inr (.inl hs)) (.inr (.inr rfl)) hr

theorem execBlkRead_inv {s t : State} (h : Inv s) (hx : execBlkRead s = .next t) : Inv t := by
  obtain ⟨hs, hcases⟩ := execBlkRead_next hx
  have hr : s.rawv = false := rawv_eq_false h (by simp [hs])
  obtain ⟨-, rfl⟩ | ⟨-, -, rfl⟩ | ⟨w, rest, -, -, rfl⟩ := hcases
  · exact inv_of_acquiring h rfl (.inr (.inr hs)) (.inr (.inr hs)) hr
  · exact h
  · have htaken : Inv (s.takeReadAns w rest) := inv_of_acquiring h rfl (.inr (.inr hs)) (.inr (.inr hs)) hr
    have hbusy : (s.takeReadAns w rest).seq ≠ .idle := by simp [hs]
    obtain ⟨-, heq⟩ | ⟨-, hst, heq⟩ | ⟨d0, d1, d2, d3, l, -, -, heq⟩ :=
      afterRead_cases (unpackReadAnswer w) (s.takeReadAns w rest) <;> rw [heq]
    · exact inv_trapEntry htaken hbusy rfl (.inr rfl) Config.ioErrorCode_ne_zero
    · exact inv_trapEntry htaken hbusy rfl (.inr rfl) hst
    · exact inv_of_sameCommand h rfl (by simp [hs, working]) rfl (by simp) (by simp)

theorem dispatchStep_inv {s t : State} (h : Inv s) (hs : s.seq = .dec) (hx : dispatchStep s = .next t) :
    Inv t := by
  have hbusy : s.seq ≠ .idle := by simp [hs]
  have ha : s.awaiting = false := awaiting_eq_false h (by simp [hs]) (by simp [hs]) (by simp [hs])
  obtain ⟨he, hst⟩ := err_none_of_ne_resp h (by simp [hs])
  obtain ⟨hunion, hdisj⟩ := h.quantities_split hbusy he
  have hrange := outputsInRange_of_inv h
  obtain ⟨-, ⟨-, rfl⟩ | ⟨q, hpol, hlow, rfl⟩⟩ := dispatchStep_next hx
  · have hvalid := valid_dispatchShared s (decodeSample s.b)
    refine inv_endDispatch (by simp [ha]) (by simp [he]) (by simp [hst])
      (by simpa using h.query_in_progress hbusy) (by simpa using h.policy_latched hbusy) ?_ (fun _ => rfl) ?_
    · rw [State.dispatchShared, valid_endDispatch] at hvalid
      simp [hvalid, hunion, BitVec.or_comm]
    · exact outputsInRange_putIfPending
        (outputsInRange_putIfPending (outputsInRange_putIfPending hrange _ _) _ _) _ _
  · obtain ⟨hunion', hdisj'⟩ := mask_move (maskLowest_some hlow).1 hdisj
    refine inv_endDispatch (by simp [ha]) (by simp [he]) (by simp [hst])
      (by simpa using h.query_in_progress hbusy) (by simpa using h.policy_latched hbusy) ?_
      (by simp [hpol]) (outputsInRange_putOut hrange _ _)
    rw [State.putOut_cmdr, valid_putOut]
    exact ⟨hunion.trans hunion'.symm, hdisj'⟩

/-- Every step keeps the invariant of the registers. -/
theorem step_inv {s t : State} (h : Inv s) (hx : step s = .next t) : Inv t := by
  obtain ⟨-, rfl⟩ | ⟨-, ⟨-, rfl⟩ | ⟨hs, w, rest, i, -, -, hm, rfl⟩ | ⟨hs, w, rest, p, -, -, rfl⟩ |
    ⟨hs, w, rest, -, -, rfl⟩ | htrig | hwait | hread | ⟨hs, hdec⟩ | ⟨hs, rfl⟩⟩ := step_cases hx
  · exact inv_applyReset s
  · exact h
  · obtain ⟨-, -, -, -, -, ha⟩ := h.idle_holds_nothing hs
    exact inv_startQuery (queryMask_mem hm) ha
  · exact inv_of_idle hs (h.idle_holds_nothing hs)
  · exact inv_of_idle hs (h.idle_holds_nothing hs)
  · exact execTrigWrite_inv h htrig
  · exact execWait40_inv h hwait
  · exact execBlkRead_inv h hread
  · exact dispatchStep_inv h hs hdec
  · exact inv_respond h hs

/-- Settles O37, by the cases of a step. -/
theorem stepKeepsTheRegisterInvariant : Obligations.StepKeepsTheRegisterInvariant :=
  fun _ _ => step_inv

end Sys2Proof.Proofs

/-! Proofs of the statements of spec/10_state.md, second part: the order of events, the count of acquisitions,
and what holds in every reachable state. -/

namespace Sys2Proof.Proofs

open Sys2Proof.Machine Sys2Proof.Safety

/-! ## The order of events, step by step -/

/-- The protocol reads a trace from left to right. -/
theorem progress_run_append (p : Progress) (es fs : List Event) :
    p.run (es ++ fs) = (p.run es).bind (·.run fs) := by
  induction es generalizing p with
  | nil => rfl
  | cons e es ih =>
    simp only [List.cons_append, Progress.run]
    cases p.next e with
    | none => rfl
    | some q => exact ih q

/-- A step keeps the order if the events it records lead from where the trace stood to where it must stand. -/
theorem inOrder_of_append {s t : State} (h : InOrder s) {es : List Event} (htr : t.trace = s.trace ++ es)
    (hes : (progressOf s).run es = some (progressOf t)) : InOrder t := by
  unfold InOrder at *
  rw [htr, progress_run_append, h, Option.bind_some, hes]

/-- A step that records nothing keeps the order if the trace must stand where it stood. -/
theorem inOrder_of_silent {s t : State} (h : InOrder s) (htr : t.trace = s.trace)
    (hp : progressOf t = progressOf s) : InOrder t :=
  inOrder_of_append h (es := []) (by simp [htr]) (by rw [hp]; rfl)

/-! Where a trace must stand, phase by phase. -/

theorem progressOf_idle {s : State} (hs : s.seq = .idle) : progressOf s = .idle := by
  simp [progressOf, hs]

theorem progressOf_trig {s : State} (hs : s.seq = .trig) (ha : s.awaiting = false) :
    progressOf s = if s.valid = 0 then .ready else .sampled := by
  simp [progressOf, hs, ha]

theorem progressOf_wrote {s : State} (hs : s.seq = .trig) (ha : s.awaiting = true) : progressOf s = .wrote := by
  simp [progressOf, hs, ha]

theorem progressOf_wait (s : State) (hs : s.seq = .wait) :
    progressOf s = if s.awaiting then .delaying else .triggered := by
  simp [progressOf, hs]

theorem progressOf_read (s : State) (hs : s.seq = .read) :
    progressOf s = if s.awaiting then .reading else .waited := by
  simp [progressOf, hs]

theorem progressOf_dec {s : State} (hs : s.seq = .dec) : progressOf s = .sampled := by
  simp [progressOf, hs]

theorem progressOf_resp {s : State} (hs : s.seq = .resp) :
    progressOf s = if s.err = .none then .sampled else .reply s.err s.stat := by
  simp [progressOf, hs]

theorem progressOf_trapEntry (s : State) {k : ErrKind} (st : Status) (hk : k ≠ .none) :
    progressOf (s.trapEntry k st) = .reply k st := by
  exact (progressOf_resp rfl).trans (if_neg hk)

/-! Where an accepted word and the answer to a block read lead. -/

theorem afterCmd_query {w : CmdWord} {i : Instr} {m : QMask} (hi : decodeCmd w = .instr i)
    (hm : queryMask i = some m) : Progress.afterCmd w = .ready := by
  cases i <;> simp_all [Progress.afterCmd, queryMask]

theorem afterCmd_setPolicy {w : CmdWord} {p : Policy} (hp : decodeCmd w = .instr (.setPolicy p)) :
    Progress.afterCmd w = .reply .none 0 := by
  simp [Progress.afterCmd, hp]

theorem afterCmd_reserved {w : CmdWord} {r : Reject} (hr : decodeCmd w = .reject r) :
    Progress.afterCmd w = .reply .illegalCmd 0 := by
  simp [Progress.afterCmd, hr]

/-- The reply a command word is due at once is the one the block gives (R115, R116). -/
theorem run_bareReply {w : CmdWord} {k : ErrKind} (p : Policy) (hw : Progress.afterCmd w = .reply k 0) :
    Progress.idle.run [.cmd w, .resp (bareResponse k p)] = some .idle := by
  simp [Progress.run, Progress.next, hw, Progress.responseDue, bareResponse]

/-- A trigger write may follow the acceptance of a query and every sample (R70). -/
theorem run_trigRequest (s : State) :
    (if s.valid = 0 then Progress.ready else .sampled).run [.request trigRequest] = some .wrote := by
  split <;> decide

theorem execTrigWrite_inOrder {s t : State} (ho : InOrder s) (hx : execTrigWrite s = .next t) :
    InOrder t := by
  obtain ⟨hs, ⟨ha, rfl⟩ | ⟨-, -, rfl⟩ | ⟨st, rest, ha, -, ⟨rfl, rfl⟩ | ⟨hst, rfl⟩⟩⟩ := execTrigWrite_next hx
  · refine inOrder_of_append ho rfl ?_
    rw [progressOf_trig hs ha, run_trigRequest, progressOf_wrote (by simpa using hs) rfl]
  · exact ho
  · refine inOrder_of_append ho rfl ?_
    rw [progressOf_wrote hs ha, progressOf_wait _ rfl]
    rfl
  · refine inOrder_of_append ho rfl ?_
    rw [progressOf_wrote hs ha, progressOf_trapEntry _ _ (by decide)]
    simp only [Progress.run, Progress.next, if_true, if_neg hst]

theorem execWait40_inOrder {s t : State} (ho : InOrder s) (hx : execWait40 s = .next t) : InOrder t := by
  obtain ⟨hs, ⟨ha, rfl⟩ | ⟨-, -, rfl⟩ | ⟨n, ha, -, rfl⟩⟩ := execWait40_next hx
  · refine inOrder_of_append ho rfl ?_
    rw [progressOf_wait s hs, progressOf_wait (s.issue waitRequest) hs, ha]
    rfl
  · exact ho
  · refine inOrder_of_append ho rfl ?_
    rw [progressOf_wait s hs, progressOf_read _ rfl, ha]
    rfl

theorem execBlkRead_inOrder {s t : State} (ho : InOrder s) (hx : execBlkRead s = .next t) : InOrder t := by
  obtain ⟨hs, ⟨ha, rfl⟩ | ⟨-, -, rfl⟩ | ⟨w, rest, ha, -, rfl⟩⟩ := execBlkRead_next hx
  · refine inOrder_of_append ho rfl ?_
    rw [progressOf_read s hs, progressOf_read (s.issue readRequest) hs, ha]
    rfl
  · exact ho
  · generalize hu : s.takeReadAns w rest = u
    have hrun : (progressOf s).run [.readAns (unpackReadAnswer w)] =
        some (Progress.afterReadAns (unpackReadAnswer w)) := by
      simp [progressOf_read s hs, ha, Progress.run, Progress.next]
    refine inOrder_of_append ho (by simp [← hu]) (hrun.trans (congrArg some ?_))
    obtain ⟨hlen, heq⟩ | ⟨hlen, hst, heq⟩ | ⟨d0, d1, d2, d3, l, hdata, hst, heq⟩ :=
      afterRead_cases (unpackReadAnswer w) u <;> rw [heq]
    · rw [progressOf_trapEntry _ _ (by decide), Progress.afterReadAns, if_pos hlen]
    · rw [progressOf_trapEntry _ _ (by decide), Progress.afterReadAns, if_neg (by omega), if_neg hst]
    · rw [progressOf_dec rfl, Progress.afterReadAns, if_neg (by simp [hdata]), if_pos hst]

/-- After the dispatch step the trace stands after a sample, with another acquisition or the response next. -/
theorem progressOf_endDispatch {s : State} {m : QMask} (ha : s.awaiting = false) (he : s.err = .none)
    (hv : (s.endDispatch m).valid ≠ 0) : progressOf (s.endDispatch m) = .sampled := by
  by_cases hm : m = 0
  · rw [progressOf_resp (by rw [State.endDispatch_seq, if_pos hm]), if_pos (by simpa using he)]
  · rw [progressOf_trig (by rw [State.endDispatch_seq, if_neg hm]) (by simpa using ha), if_neg hv]

theorem or_ne_zero_of_right {v m : QMask} (hm : m ≠ 0) : v ||| m ≠ 0 := by
  revert v m
  decide

theorem pend_ne_zero {s : State} (h : Inv s) (hs : s.seq = .dec) : s.pend ≠ 0 :=
  h.pending_while_working.2 (by simp [hs, working])

theorem dispatchStep_inOrder {s t : State} (h : Inv s) (ho : InOrder s) (hs : s.seq = .dec)
    (hx : dispatchStep s = .next t) : InOrder t := by
  have ha : s.awaiting = false := awaiting_eq_false h (by simp [hs]) (by simp [hs]) (by simp [hs])
  obtain ⟨he, -⟩ := err_none_of_ne_resp h (by simp [hs])
  refine inOrder_of_silent ho (dispatchStep_trace hx) ?_
  rw [progressOf_dec hs]
  obtain ⟨-, ⟨-, rfl⟩ | ⟨q, -, -, rfl⟩⟩ := dispatchStep_next hx
  · refine progressOf_endDispatch (by simp [ha]) (by simp [he]) ?_
    exact (valid_dispatchShared s (decodeSample s.b)).symm ▸ or_ne_zero_of_right (pend_ne_zero h hs)
  · refine progressOf_endDispatch (by simp [ha]) (by simp [he]) ?_
    rw [valid_endDispatch, valid_putOut]
    exact or_ne_zero_of_right (by cases q <;> decide)

/-- The response step emits the response due: after the last sample one with a value, else the error (R109). -/
theorem responseDue_response {s : State} (h : Inv s) (hs : s.seq = .resp) :
    (progressOf s).responseDue s.response = true := by
  have hbusy : s.seq ≠ .idle := by simp [hs]
  rw [progressOf_resp hs]
  obtain ⟨he, hst⟩ | ⟨hk, -, -, hv⟩ := h.error_form
  · have hp : s.pend = 0 := by simpa [hs, working] using h.pending_while_working
    obtain ⟨hunion, -⟩ := h.quantities_split hbusy he
    have hv : s.valid ≠ 0 := by
      have hne := ne_zero_of_mem_queryMasks (h.query_in_progress hbusy)
      rw [hunion, hp] at hne
      simpa using hne
    rw [if_pos he]
    simpa [Progress.responseDue, State.response, he, hst] using hv
  · rw [if_neg (by rcases hk with hk | hk <;> simp [hk])]
    simp [Progress.responseDue, State.response, hv]

/-- Every step keeps the order of the events. -/
theorem step_inOrder {s t : State} (h : Inv s) (ho : InOrder s) (hx : step s = .next t) : InOrder t := by
  obtain ⟨-, rfl⟩ | ⟨-, ⟨-, rfl⟩ | ⟨hs, w, rest, i, -, hi, hm, rfl⟩ | ⟨hs, w, rest, p, -, hp, rfl⟩ |
    ⟨hs, w, rest, -, hrj, rfl⟩ | htrig | hwait | hread | ⟨hs, hdec⟩ | ⟨hs, rfl⟩⟩ := step_cases hx
  · exact inOrder_of_append ho rfl rfl
  · exact ho
  · obtain ⟨-, -, -, -, -, ha⟩ := h.idle_holds_nothing hs
    refine inOrder_of_append (es := [.cmd w]) ho rfl ?_
    rw [progressOf_idle hs, progressOf_trig (s := (s.accept w rest).startQuery _) rfl ha,
      if_pos (valid_startQuery _ _)]
    simp [Progress.run, Progress.next, afterCmd_query hi hm]
  · refine inOrder_of_append (es := [.cmd w, .resp (bareResponse .none p)]) ho (by simp) ?_
    rw [progressOf_idle hs, progressOf_idle (by simpa using hs), run_bareReply p (afterCmd_setPolicy hp)]
  · refine inOrder_of_append (es := [.cmd w, .resp (bareResponse .illegalCmd s.cfgPolicy)]) ho (by simp) ?_
    rw [progressOf_idle hs, progressOf_idle (by simpa using hs), run_bareReply _ (afterCmd_reserved hrj)]
  · exact execTrigWrite_inOrder ho htrig
  · exact execWait40_inOrder ho hwait
  · exact execBlkRead_inOrder ho hread
  · exact dispatchStep_inOrder h ho hs hdec
  · refine inOrder_of_append (es := [.resp s.response]) ho rfl ?_
    rw [progressOf_idle (s := s.respond) rfl]
    simp only [Progress.run, Progress.next, responseDue_response h hs, if_true]

/-! ## The count of acquisitions, step by step -/

theorem writesSinceCmd_append (es fs : List Event) :
    writesSinceCmd (es ++ fs) = fs.foldl countStep (writesSinceCmd es) :=
  List.foldl_append

theorem counted_of_idle {s : State} (hs : s.seq = .idle) : Counted s := by
  simp [Counted, hs]

/-- At the start of an acquisition, the count is that of the values held. -/
theorem counted_of_start {s : State} (hs : s.seq = .trig) (ha : s.awaiting = false)
    (hn : writesSinceCmd s.trace = maskCount s.valid) : Counted s :=
  ⟨fun _ _ => hn, by simp [hs, ha], by simp [hs], by simp [hs]⟩

/-- At a response without error, the count is that of the acquisitions due. -/
theorem counted_of_response {s : State} (hs : s.seq = .resp) (he : s.err = .none)
    (hn : writesSinceCmd s.trace = acquisitionsDue s.pol (maskCount s.valid)) : Counted s :=
  ⟨by simp [hs], by simp [hs], fun _ _ => hn, by simp [he]⟩

/-- An acquisition is under way: its trigger write has been issued and its sample not been dispatched. -/
def Acquiring (s : State) : Prop :=
  s.seq = .trig ∧ s.awaiting = true ∨ s.seq = .wait ∨ s.seq = .read ∨ s.seq = .dec

/-- While an acquisition is under way, the count is one more than the values held. -/
theorem counted_of_acquiring {t : State} (ht : Acquiring t)
    (hn : writesSinceCmd t.trace = maskCount t.valid + 1) : Counted t := by
  refine ⟨fun hs ha => ?_, fun _ => hn, fun hs => ?_, fun hs => ?_⟩
  · simp [Acquiring, hs, ha] at ht
  · simp [Acquiring, hs] at ht
  · simp [Acquiring, hs] at ht

/-- A step within an acquisition that starts none keeps the count. -/
theorem counted_of_acquiring_step {s t : State} (hc : Counted s) (hs : Acquiring s) (ht : Acquiring t)
    (hv : t.valid = s.valid) (hw : writesSinceCmd t.trace = writesSinceCmd s.trace) : Counted t := by
  obtain ⟨-, hcount, -, -⟩ := hc
  exact counted_of_acquiring ht (by rw [hw, hv, hcount hs])

/-- With the acquisition under way, a command has started no more than it is due (R117). -/
theorem acquisitions_le_due {s : State} (h : Inv s) (hs : working s.seq = true) :
    maskCount s.valid + 1 ≤ acquisitionsDue s.pol (maskCount s.cmdr) := by
  cases hpol : s.pol with
  | shared =>
    rw [h.shared_all_at_once hpol hs]
    rfl
  | perQuantity =>
    obtain ⟨he, -⟩ := err_none_of_ne_resp h (ne_resp_of_working hs)
    obtain ⟨hunion, hdisj⟩ := h.quantities_split (ne_idle_of_working hs) he
    have hpend : maskCount s.pend ≠ 0 := mt (maskCount_eq_zero_iff _).1 (h.pending_while_working.2 hs)
    rw [hunion, maskCount_or hdisj, acquisitionsDue]
    omega

/-- A command that fails within an acquisition has started at least one and no more than it is due. -/
theorem counted_of_failure {s t : State} (h : Inv s) (hc : Counted s) (hs : Acquiring s)
    (ht : t.seq = .resp) (he : t.err ≠ .none) (hcmdr : t.cmdr = s.cmdr) (hpol : t.pol = s.pol)
    (hw : writesSinceCmd t.trace = writesSinceCmd s.trace) : Counted t := by
  obtain ⟨-, hcount, -, -⟩ := hc
  have hdue := acquisitions_le_due h (by rcases hs with ⟨hs, -⟩ | hs | hs | hs <;> rw [hs] <;> rfl)
  refine ⟨by simp [ht], by simp [ht], fun _ hn => absurd hn he, fun _ _ => ?_⟩
  rw [hw, hcount hs, hcmdr, hpol]
  exact ⟨by omega, hdue⟩

theorem execTrigWrite_counted {s t : State} (h : Inv s) (hc : Counted s) (hx : execTrigWrite s = .next t) :
    Counted t := by
  obtain ⟨hs, ⟨ha, rfl⟩ | ⟨-, -, rfl⟩ | ⟨st, rest, ha, -, ⟨-, rfl⟩ | ⟨-, rfl⟩⟩⟩ := execTrigWrite_next hx
  · obtain ⟨hstart, -⟩ := hc
    refine counted_of_acquiring (.inl ⟨hs, rfl⟩) ?_
    rw [State.issue_trace, writesSinceCmd_append]
    exact congrArg (· + 1) (hstart hs ha)
  · exact hc
  · exact counted_of_acquiring_step hc (.inl ⟨hs, ha⟩) (.inr (.inl rfl)) rfl (writesSinceCmd_append _ _)
  · exact counted_of_failure h hc (.inl ⟨hs, ha⟩) rfl (by simp) rfl rfl (writesSinceCmd_append _ _)

theorem execWait40_counted {s t : State} (hc : Counted s) (hx : execWait40 s = .next t) : Counted t := by
  obtain ⟨hs, ⟨-, rfl⟩ | ⟨-, -, rfl⟩ | ⟨n, -, -, rfl⟩⟩ := execWait40_next hx
  · exact counted_of_acquiring_step hc (.inr (.inl hs)) (.inr (.inl hs)) rfl (writesSinceCmd_append _ _)
  · exact hc
  · exact counted_of_acquiring_step hc (.inr (.inl hs)) (.inr (.inr (.inl rfl))) rfl (writesSinceCmd_append _ _)

theorem execBlkRead_counted {s t : State} (h : Inv s) (hc : Counted s) (hx : execBlkRead s = .next t) :
    Counted t := by
  obtain ⟨hs, ⟨-, rfl⟩ | ⟨-, -, rfl⟩ | ⟨w, rest, -, -, rfl⟩⟩ := execBlkRead_next hx
  · exact counted_of_acquiring_step hc (.inr (.inr (.inl hs))) (.inr (.inr (.inl hs))) rfl
      (writesSinceCmd_append _ _)
  · exact hc
  · have hacq : Acquiring s := .inr (.inr (.inl hs))
    obtain ⟨-, heq⟩ | ⟨-, -, heq⟩ | ⟨d0, d1, d2, d3, l, -, -, heq⟩ :=
      afterRead_cases (unpackReadAnswer w) (s.takeReadAns w rest) <;> rw [heq]
    · exact counted_of_failure h hc hacq rfl (by simp) rfl rfl (writesSinceCmd_append _ _)
    · exact counted_of_failure h hc hacq rfl (by simp) rfl rfl (writesSinceCmd_append _ _)
    · exact counted_of_acquiring_step hc hacq (.inr (.inr (.inr rfl))) rfl (writesSinceCmd_append _ _)

/-- Producing a pending quantity makes the values held one more. -/
theorem maskCount_produced {m v : QMask} {q : Quantity} (h : maskHas m q = true) (hd : m &&& v = 0) :
    maskCount (v ||| (1 : QMask) <<< q.bit) = maskCount v + 1 := by
  obtain ⟨hunion, hdisj⟩ := mask_move h hd
  have hafter := maskCount_or hdisj
  rw [hunion, maskCount_or hd] at hafter
  have hclear := maskCount_clear h
  omega

theorem dispatchStep_counted {s t : State} (h : Inv s) (hc : Counted s) (hs : s.seq = .dec)
    (hx : dispatchStep s = .next t) : Counted t := by
  have ha : s.awaiting = false := awaiting_eq_false h (by simp [hs]) (by simp [hs]) (by simp [hs])
  obtain ⟨he, -⟩ := err_none_of_ne_resp h (by simp [hs])
  obtain ⟨-, hdisj⟩ := h.quantities_split (by simp [hs]) he
  obtain ⟨-, hcount, -, -⟩ := hc
  have hn : writesSinceCmd t.trace = maskCount s.valid + 1 := by
    rw [dispatchStep_trace hx]
    exact hcount (.inr (.inr (.inr hs)))
  obtain ⟨-, ⟨hpol, rfl⟩ | ⟨q, hpol, hlow, rfl⟩⟩ := dispatchStep_next hx
  · have hpol' : (s.dispatchShared (decodeSample s.b)).pol = .shared := by simp [State.dispatchShared, hpol]
    refine counted_of_response rfl (by simp [State.dispatchShared, he]) ?_
    rw [hn, hpol', h.shared_all_at_once hpol (by simp [hs, working])]
    rfl
  · have hheld : maskCount (s.dispatchOne q (decodeSample s.b)).valid = maskCount s.valid + 1 := by
      rw [State.dispatchOne, valid_endDispatch, valid_putOut]
      exact maskCount_produced (maskLowest_some hlow).1 hdisj
    by_cases hm : maskClear s.pend q = 0
    · refine counted_of_response (if_pos hm) (by simp [State.dispatchOne, he]) ?_
      rw [hn, ← hheld, show (s.dispatchOne q (decodeSample s.b)).pol = .perQuantity by
        simp [State.dispatchOne, hpol]]
      rfl
    · exact counted_of_start (if_neg hm) (by simp [State.dispatchOne, ha]) (hn.trans hheld.symm)

/-- Every step keeps the count of acquisitions. -/
theorem step_counted {s t : State} (h : Inv s) (hc : Counted s) (hx : step s = .next t) : Counted t := by
  obtain ⟨-, rfl⟩ | ⟨-, ⟨-, rfl⟩ | ⟨hs, w, rest, i, -, -, -, rfl⟩ | ⟨hs, w, rest, p, -, -, rfl⟩ |
    ⟨hs, w, rest, -, -, rfl⟩ | htrig | hwait | hread | ⟨hs, hdec⟩ | ⟨-, rfl⟩⟩ := step_cases hx
  · exact counted_of_idle rfl
  · exact hc
  · obtain ⟨-, -, -, -, -, ha⟩ := h.idle_holds_nothing hs
    refine counted_of_start rfl ha ?_
    rw [valid_startQuery, State.startQuery_trace, State.accept_trace, writesSinceCmd_append]
    rfl
  · exact counted_of_idle hs
  · exact counted_of_idle hs
  · exact execTrigWrite_counted h hc htrig
  · exact execWait40_counted hc hwait
  · exact execBlkRead_counted h hc hread
  · exact dispatchStep_counted h hc hs hdec
  · exact counted_of_idle rfl

/-! ## Every reachable state -/

/-- Settles O36: the reset state is idle, holds nothing, and has an empty trace. -/
theorem resetMeetsTheInvariants : Obligations.ResetMeetsTheInvariants :=
  ⟨inv_of_idle rfl ⟨rfl, rfl, rfl, rfl, rfl, rfl⟩, rfl, counted_of_idle rfl⟩

/-- Settles O42, by induction on the run: reset meets the three invariants, every step keeps each of them, and
so does every input. -/
theorem reachableStatesMeetTheInvariants : Obligations.ReachableStatesMeetTheInvariants := by
  intro s hs
  induction hs with
  | start => exact resetMeetsTheInvariants
  | stepped _ hx ih =>
    obtain ⟨hinv, horder, hcount⟩ := ih
    exact ⟨step_inv hinv hx, step_inOrder hinv horder hx, step_counted hinv hcount hx⟩
  | fed i _ ih =>
    obtain ⟨hinv, horder, hcount⟩ := ih
    obtain ⟨kinv, korder, kcount⟩ := inputsKeepTheInvariants i _
    exact ⟨kinv hinv, korder horder, kcount hcount⟩

theorem inv_of_reachable {s : State} (h : Reachable s) : Inv s :=
  (reachableStatesMeetTheInvariants s h).1

/-- Settles O44: the invariant says what form an error has, and that its response finds every flag cleared. -/
theorem errorResponseCarriesNoValue : Obligations.ErrorResponseCarriesNoValue := by
  intro s hreach _ he
  have herror := (inv_of_reachable hreach).error_form
  obtain ⟨hkind, hstat, -, hv⟩ := herror.resolve_left fun ⟨hnone, _⟩ => he hnone
  obtain ⟨hf, hc, hh⟩ := (valid_eq_zero_iff s).1 hv
  exact ⟨hkind, hstat, hv, by simp [State.response, hf, validField], by simp [State.response, hc, validField],
    by simp [State.response, hh, validField]⟩

/-! ## No refusal, and no fault where the invariant holds -/

/-- In its own phase a micro-operation always answers a next state (R40). -/
theorem execTrigWrite_isNext {s : State} (hs : s.seq = .trig) : ∃ t, execTrigWrite s = .next t := by
  rw [execTrigWrite, if_pos hs]
  repeat' split
  all_goals exact ⟨_, rfl⟩

theorem execWait40_isNext {s : State} (hs : s.seq = .wait) : ∃ t, execWait40 s = .next t := by
  rw [execWait40, if_pos hs]
  repeat' split
  all_goals exact ⟨_, rfl⟩

theorem execBlkRead_isNext {s : State} (hs : s.seq = .read) : ∃ t, execBlkRead s = .next t := by
  rw [execBlkRead, if_pos hs]
  repeat' split
  all_goals exact ⟨_, rfl⟩

/-- Only the dispatch step can fail to answer a next state. -/
theorem step_isNext_or_dispatch (s : State) :
    (∃ t, step s = .next t) ∨ (s.seq = .dec ∧ step s = dispatchStep s) := by
  cases hr : s.resetReq with
  | true => exact .inl ⟨_, step_reset hr⟩
  | false =>
    cases hs : s.seq with
    | idle =>
      refine .inl ?_
      obtain ⟨-, hk⟩ | ⟨w, rest, -, ⟨i, -, -, hk⟩ | ⟨p, -, hk⟩ | ⟨-, hk⟩⟩ := step_idle hr hs <;> exact ⟨_, hk⟩
    | trig => exact .inl (step_trig hr hs ▸ execTrigWrite_isNext hs)
    | wait => exact .inl (step_wait hr hs ▸ execWait40_isNext hs)
    | read => exact .inl (step_read hr hs ▸ execBlkRead_isNext hs)
    | dec => exact .inr ⟨rfl, step_dec hr hs⟩
    | resp => exact .inl ⟨_, step_resp hr hs⟩

theorem dispatchStep_of_no_sample {s : State} (hv : s.rawv = false) :
    dispatchStep s = .fault .sampleNotHeld := by
  simp [dispatchStep, hv]

theorem dispatchStep_shared {s : State} (hv : s.rawv = true) (hp : s.pol = .shared) :
    dispatchStep s = .next (s.dispatchShared (decodeSample s.b)) := by
  simp [dispatchStep, hv, hp]

theorem dispatchStep_perQuantity {s : State} {q : Quantity} (hv : s.rawv = true) (hp : s.pol = .perQuantity)
    (hq : maskLowest s.pend = some q) : dispatchStep s = .next (s.dispatchOne q (decodeSample s.b)) := by
  simp [dispatchStep, hv, hp, hq]

theorem dispatchStep_of_nothing_pending {s : State} (hv : s.rawv = true) (hp : s.pol = .perQuantity)
    (hm : s.pend = 0) : dispatchStep s = .fault .nothingPending := by
  simp [dispatchStep, hv, hp, (maskLowest_none_iff s.pend).2 hm]

/-- The dispatch step answers a next state or one of its two faults. -/
theorem dispatchStep_total (s : State) :
    (∃ t, dispatchStep s = .next t) ∨
      (s.rawv = false ∧ dispatchStep s = .fault .sampleNotHeld) ∨
      (s.pend = 0 ∧ dispatchStep s = .fault .nothingPending) := by
  cases hv : s.rawv with
  | false => exact .inr (.inl ⟨rfl, dispatchStep_of_no_sample hv⟩)
  | true =>
    cases hp : s.pol with
    | shared => exact .inl ⟨_, dispatchStep_shared hv hp⟩
    | perQuantity =>
      cases hq : maskLowest s.pend with
      | none =>
        have hm := (maskLowest_none_iff s.pend).1 hq
        exact .inr (.inr ⟨hm, dispatchStep_of_nothing_pending hv hp hm⟩)
      | some q => exact .inl ⟨_, dispatchStep_perQuantity hv hp hq⟩

/-- Settles O24: in DEC the step is the dispatch step, which faults with no sample and with nothing pending. -/
theorem dispatchStopsOutsideItsPrecondition : Obligations.DispatchStopsOutsideItsPrecondition :=
  fun _ hr hs =>
    ⟨fun hv => (step_dec hr hs).trans (dispatchStep_of_no_sample hv),
      fun hv hp hm => (step_dec hr hs).trans (dispatchStep_of_nothing_pending hv hp hm)⟩

/-- Settles O41: only the dispatch step can stop, with a fault, and the invariant rules both of its faults out. -/
theorem invariantStatesAlwaysStep : Obligations.InvariantStatesAlwaysStep := by
  refine ⟨fun s h => ?_, fun s r hx => ?_⟩
  · obtain hnext | ⟨hs, hx⟩ := step_isNext_or_dispatch s
    · exact hnext
    · rw [hx]
      obtain hnext | ⟨hv, -⟩ | ⟨hm, -⟩ := dispatchStep_total s
      · exact hnext
      · exact absurd (h.sample_in_dec.2 hs) (by simp [hv])
      · exact absurd hm (pend_ne_zero h hs)
  · obtain ⟨t, hnext⟩ | ⟨-, hdec⟩ := step_isNext_or_dispatch s
    · simp [hnext] at hx
    · obtain ⟨t, ht⟩ | ⟨-, ht⟩ | ⟨-, ht⟩ := dispatchStep_total s <;> simp [hdec, ht] at hx

end Sys2Proof.Proofs

/-! Proofs of the statements of spec/10_state.md, third part: the word a phase takes, what each register is
changed by, and the registers that hold no value. -/

namespace Sys2Proof.Proofs

open Sys2Proof.Machine Sys2Proof.Safety

/-! ## The word a phase takes -/

/-- Settles O1: the step decodes the word `fetch` hands it. -/
theorem stepRunsDecodedInstruction : Obligations.StepRunsDecodedInstruction := by
  intro s s' c i hr hf hi
  simp [step, hr, hf, hi]

theorem step_of_reject {s s' : State} {c : Code} {r : Reject} (hr : s.resetReq = false)
    (hf : s.fetch = .code c s') (hrj : decode c = .reject r) : step s = rejectWord r s' := by
  simp [step, hr, hf, hrj]

/-- In IDLE the word accepted is handed on with the state after its acceptance (R105). -/
theorem fetch_of_choice {s : State} {w : CmdWord} {rest : List (List CmdWord)} (hs : s.seq = .idle)
    (ho : chooseOffer s.draws (offers s.callers) = some (w, rest)) :
    s.fetch = .code (.cmd w) (s.accept w rest) := by
  simp [State.fetch, hs, ho]

theorem fetch_trig {s : State} (hs : s.seq = .trig) : s.fetch = .code (.req trigWord) s := by
  simp [State.fetch, hs]

theorem fetch_wait {s : State} (hs : s.seq = .wait) : s.fetch = .code (.req waitWord) s := by
  simp [State.fetch, hs]

theorem fetch_read {s : State} (hs : s.seq = .read) : s.fetch = .code (.req readWord) s := by
  simp [State.fetch, hs]

/-- Settles O6: the constant words of the phases, bit by bit (R55). -/
theorem phaseSelectsItsMicroOperation : Obligations.PhaseSelectsItsMicroOperation := by
  have htrig : trigWord = 0b0101001110000000000000000#25 := by decide
  have hwait : waitWord = 0b1100000000000000000101000#25 := by decide
  have hread : readWord = 0b1001001110000000000000100#25 := by decide
  exact fun s => ⟨fun hs => htrig ▸ fetch_trig hs, fun hs => hwait ▸ fetch_wait hs, fun hs => hread ▸ fetch_read hs⟩

/-- A block at whose port nothing is offered does nothing (R120). -/
theorem step_of_no_choice {s : State} (hr : s.resetReq = false) (hs : s.seq = .idle)
    (ho : chooseOffer s.draws (offers s.callers) = none) : step s = .next s := by
  simp [step, hr, State.fetch, hs, ho]

/-- Settles O33: every value is the one `State.reset` gives, and no caller holds a word there. -/
theorem resetLeavesTheIdleState : Obligations.ResetLeavesTheIdleState :=
  ⟨rfl, rfl, rfl, rfl, rfl, rfl, rfl, rfl, rfl, rfl, rfl, rfl, rfl, step_of_no_choice rfl rfl rfl⟩

/-! ## What a step leaves as it is -/

/-- One of the three micro-operations answers the next state `t` (R71 to R73). -/
def MicroStep (s t : State) : Prop :=
  execTrigWrite s = .next t ∨ execWait40 s = .next t ∨ execBlkRead s = .next t

/-- A micro-operation moves the acquisition of its command on, and beyond that may raise its failure (R71 to
R73). -/
theorem microStep_cases {s t : State} (hx : MicroStep s t) :
    sameCommand s t ∨ ∃ u k st, sameCommand s u ∧ t = u.trapEntry k st := by
  rcases hx with hx | hx | hx
  · obtain ⟨-, ⟨-, rfl⟩ | ⟨-, -, rfl⟩ | ⟨st, rest, -, -, ⟨-, rfl⟩ | ⟨-, rfl⟩⟩⟩ := execTrigWrite_next hx
    · exact .inl rfl
    · exact .inl rfl
    · exact .inl rfl
    · exact .inr ⟨s.takeWriteAns st rest, _, _, rfl, rfl⟩
  · obtain ⟨-, ⟨-, rfl⟩ | ⟨-, -, rfl⟩ | ⟨n, -, -, rfl⟩⟩ := execWait40_next hx <;> exact .inl rfl
  · obtain ⟨-, ⟨-, rfl⟩ | ⟨-, -, rfl⟩ | ⟨w, rest, -, -, rfl⟩⟩ := execBlkRead_next hx
    · exact .inl rfl
    · exact .inl rfl
    · obtain ⟨-, heq⟩ | ⟨-, -, heq⟩ | ⟨d0, d1, d2, d3, l, -, -, heq⟩ :=
        afterRead_cases (unpackReadAnswer w) (s.takeReadAns w rest) <;> rw [heq]
      · exact .inr ⟨s.takeReadAns w rest, _, _, rfl, rfl⟩
      · exact .inr ⟨s.takeReadAns w rest, _, _, rfl, rfl⟩
      · exact .inl rfl

/-- CMDR, POL and CFG.POLICY are as they were. -/
structure KeepsLatches (s t : State) : Prop where
  cmdr : t.cmdr = s.cmdr
  pol : t.pol = s.pol
  cfgPolicy : t.cfgPolicy = s.cfgPolicy

/-- The output registers are as they were, and none of their flags is set. -/
structure KeepsOutputs (s t : State) : Prop where
  outTF : t.outTF = s.outTF
  outTC : t.outTC = s.outTC
  outH : t.outH = s.outH
  vf : t.vf = true → s.vf = true
  vc : t.vc = true → s.vc = true
  vh : t.vh = true → s.vh = true

/-- B[0..3] are as they were, and RAWV is not set. -/
structure KeepsSample (s t : State) : Prop where
  b : t.b = s.b
  rawv : t.rawv = true → s.rawv = true

theorem microStep_keepsLatches {s t : State} (hx : MicroStep s t) : KeepsLatches s t := by
  obtain hst | ⟨u, k, st, hu, rfl⟩ := microStep_cases hx
  · rw [hst]
    exact ⟨rfl, rfl, rfl⟩
  · rw [hu]
    exact ⟨rfl, rfl, rfl⟩

theorem microStep_keepsOutputs {s t : State} (hx : MicroStep s t) : KeepsOutputs s t := by
  obtain hst | ⟨u, k, st, hu, rfl⟩ := microStep_cases hx
  · rw [hst]
    exact ⟨rfl, rfl, rfl, id, id, id⟩
  · rw [hu]
    exact ⟨rfl, rfl, rfl, by simp, by simp, by simp⟩

theorem dispatchStep_keepsLatches {s t : State} (hx : dispatchStep s = .next t) : KeepsLatches s t := by
  obtain ⟨-, ⟨-, rfl⟩ | ⟨q, -, -, rfl⟩⟩ := dispatchStep_next hx
  · constructor <;> simp [State.dispatchShared]
  · constructor <;> simp [State.dispatchOne]

theorem dispatchStep_keepsSample {s t : State} (hx : dispatchStep s = .next t) : KeepsSample s t := by
  obtain ⟨-, ⟨-, rfl⟩ | ⟨q, -, -, rfl⟩⟩ := dispatchStep_next hx
  · constructor <;> simp [State.dispatchShared]
  · constructor <;> simp [State.dispatchOne]

/-- The policy is configured by `set_policy` alone (R18, R115). -/
theorem step_keepsPolicy_or_sets {s t : State} (hr : s.resetReq = false) (hx : step s = .next t) :
    t.cfgPolicy = s.cfgPolicy ∨
      (s.seq = .idle ∧ ∃ w rest, chooseOffer s.draws (offers s.callers) = some (w, rest) ∧
        decodeCmd w = .instr (.setPolicy t.cfgPolicy)) := by
  obtain ⟨hreset, -⟩ | ⟨-, ⟨-, rfl⟩ | ⟨-, w, rest, i, -, -, -, rfl⟩ | ⟨hs, w, rest, p, ho, hp, rfl⟩ |
    ⟨-, w, rest, -, -, rfl⟩ | htrig | hwait | hread | ⟨-, hdec⟩ | ⟨-, rfl⟩⟩ := step_cases hx
  · simp [hr] at hreset
  · exact .inl rfl
  · exact .inl rfl
  · exact .inr ⟨hs, w, rest, ho, hp⟩
  · exact .inl rfl
  · exact .inl (microStep_keepsLatches (.inl htrig)).cfgPolicy
  · exact .inl (microStep_keepsLatches (.inr (.inl hwait))).cfgPolicy
  · exact .inl (microStep_keepsLatches (.inr (.inr hread))).cfgPolicy
  · exact .inl (dispatchStep_keepsLatches hdec).cfgPolicy
  · exact .inl rfl

/-- Settles O48: every other step keeps CFG.POLICY. -/
theorem policyChangesOnlyBySetPolicy : Obligations.PolicyChangesOnlyBySetPolicy := by
  intro s t hr hx hne
  obtain ⟨hs, w, rest, ho, hp⟩ := (step_keepsPolicy_or_sets hr hx).resolve_left hne
  exact ⟨hs, w, _, fetch_of_choice hs ho, hp⟩

/-- CMDR and POL are latched at the acceptance of a query alone (R14, R106). -/
theorem step_keepsLatches_or_starts {s t : State} (hr : s.resetReq = false) (hx : step s = .next t) :
    (t.cmdr = s.cmdr ∧ t.pol = s.pol) ∨
      (s.seq = .idle ∧ t.seq = .trig ∧ t.pol = s.cfgPolicy ∧ t.cmdr ∈ queryMasks) := by
  have hkept : KeepsLatches s t → t.cmdr = s.cmdr ∧ t.pol = s.pol := fun ⟨hcmdr, hpol, _⟩ => ⟨hcmdr, hpol⟩
  obtain ⟨hreset, -⟩ | ⟨-, ⟨-, rfl⟩ | ⟨hs, w, rest, i, -, -, hm, rfl⟩ | ⟨-, w, rest, p, -, -, rfl⟩ |
    ⟨-, w, rest, -, -, rfl⟩ | htrig | hwait | hread | ⟨-, hdec⟩ | ⟨-, rfl⟩⟩ := step_cases hx
  · simp [hr] at hreset
  · exact .inl ⟨rfl, rfl⟩
  · exact .inr ⟨hs, rfl, rfl, queryMask_mem hm⟩
  · exact .inl ⟨rfl, rfl⟩
  · exact .inl ⟨rfl, rfl⟩
  · exact .inl (hkept (microStep_keepsLatches (.inl htrig)))
  · exact .inl (hkept (microStep_keepsLatches (.inr (.inl hwait))))
  · exact .inl (hkept (microStep_keepsLatches (.inr (.inr hread))))
  · exact .inl (hkept (dispatchStep_keepsLatches hdec))
  · exact .inl ⟨rfl, rfl⟩

/-- Settles O51: every other step keeps the latches. -/
theorem latchesChangeOnlyAtAcceptance : Obligations.LatchesChangeOnlyAtAcceptance := by
  intro s t hr hx hne
  refine (step_keepsLatches_or_starts hr hx).resolve_left fun ⟨hcmdr, hpol⟩ => ?_
  exact hne.elim (absurd hcmdr) (absurd hpol)

/-- Outside DEC no output is written (R17, R107, R108). -/
theorem step_keepsOutputs {s t : State} (hr : s.resetReq = false) (hs : s.seq ≠ .dec)
    (hx : step s = .next t) : KeepsOutputs s t := by
  obtain ⟨hreset, -⟩ | ⟨-, ⟨-, rfl⟩ | ⟨-, w, rest, i, -, -, -, rfl⟩ | ⟨-, w, rest, p, -, -, rfl⟩ |
    ⟨-, w, rest, -, -, rfl⟩ | htrig | hwait | hread | ⟨hdec, -⟩ | ⟨-, rfl⟩⟩ := step_cases hx
  · simp [hr] at hreset
  · exact ⟨rfl, rfl, rfl, id, id, id⟩
  · exact ⟨rfl, rfl, rfl, by simp, by simp, by simp⟩
  · exact ⟨rfl, rfl, rfl, id, id, id⟩
  · exact ⟨rfl, rfl, rfl, id, id, id⟩
  · exact microStep_keepsOutputs (.inl htrig)
  · exact microStep_keepsOutputs (.inr (.inl hwait))
  · exact microStep_keepsOutputs (.inr (.inr hread))
  · exact absurd hdec hs
  · exact ⟨rfl, rfl, rfl, by simp, by simp, by simp⟩

/-- Settles O50: a step outside DEC keeps the outputs. -/
theorem outputsAreWrittenByDispatchOnly : Obligations.OutputsAreWrittenByDispatchOnly := by
  intro s t hr hx hwritten
  by_contra hs
  obtain ⟨htf, htc, hh, hvf, hvc, hvh⟩ := step_keepsOutputs hr hs hx
  rcases hwritten with h | h | h | ⟨hclear, hset⟩ | ⟨hclear, hset⟩ | ⟨hclear, hset⟩
  · exact h htf
  · exact h htc
  · exact h hh
  · simp [hvf hset] at hclear
  · simp [hvc hset] at hclear
  · simp [hvh hset] at hclear

theorem execTrigWrite_keepsSample {s t : State} (hx : execTrigWrite s = .next t) : KeepsSample s t := by
  obtain ⟨-, ⟨-, rfl⟩ | ⟨-, -, rfl⟩ | ⟨st, rest, -, -, ⟨-, rfl⟩ | ⟨-, rfl⟩⟩⟩ := execTrigWrite_next hx
  · exact ⟨rfl, by simp⟩
  · exact ⟨rfl, id⟩
  · exact ⟨rfl, id⟩
  · exact ⟨rfl, by simp⟩

theorem execWait40_keepsSample {s t : State} (hx : execWait40 s = .next t) : KeepsSample s t := by
  obtain ⟨-, ⟨-, rfl⟩ | ⟨-, -, rfl⟩ | ⟨n, -, -, rfl⟩⟩ := execWait40_next hx <;> exact ⟨rfl, id⟩

/-- The block read stores a sample at its successful end alone (R10, R73). -/
theorem execBlkRead_keepsSample_or_loads {s t : State} (hx : execBlkRead s = .next t) :
    KeepsSample s t ∨ (s.seq = .read ∧ s.awaiting = true ∧ t.rawv = true ∧ t.seq = .dec) := by
  obtain ⟨hs, ⟨-, rfl⟩ | ⟨-, -, rfl⟩ | ⟨w, rest, ha, -, rfl⟩⟩ := execBlkRead_next hx
  · exact .inl ⟨rfl, id⟩
  · exact .inl ⟨rfl, id⟩
  · obtain ⟨-, heq⟩ | ⟨-, -, heq⟩ | ⟨d0, d1, d2, d3, l, -, -, heq⟩ :=
      afterRead_cases (unpackReadAnswer w) (s.takeReadAns w rest) <;> rw [heq]
    · exact .inl ⟨rfl, by simp⟩
    · exact .inl ⟨rfl, by simp⟩
    · exact .inr ⟨hs, ha, rfl, rfl⟩

theorem step_keepsSample_or_loads {s t : State} (hr : s.resetReq = false) (hx : step s = .next t) :
    KeepsSample s t ∨ (s.seq = .read ∧ s.awaiting = true ∧ t.rawv = true ∧ t.seq = .dec) := by
  obtain ⟨hreset, -⟩ | ⟨-, ⟨-, rfl⟩ | ⟨-, w, rest, i, -, -, -, rfl⟩ | ⟨-, w, rest, p, -, -, rfl⟩ |
    ⟨-, w, rest, -, -, rfl⟩ | htrig | hwait | hread | ⟨-, hdec⟩ | ⟨-, rfl⟩⟩ := step_cases hx
  · simp [hr] at hreset
  · exact .inl ⟨rfl, id⟩
  · exact .inl ⟨rfl, by simp⟩
  · exact .inl ⟨rfl, id⟩
  · exact .inl ⟨rfl, id⟩
  · exact .inl (execTrigWrite_keepsSample htrig)
  · exact .inl (execWait40_keepsSample hwait)
  · exact execBlkRead_keepsSample_or_loads hread
  · exact .inl (dispatchStep_keepsSample hdec)
  · exact .inl ⟨rfl, by simp⟩

/-- Settles O49: every other step keeps the sample. -/
theorem sampleIsWrittenByBlkReadOnly : Obligations.SampleIsWrittenByBlkReadOnly := by
  intro s t hr hx hwritten
  refine (step_keepsSample_or_loads hr hx).resolve_left fun ⟨hb, hrawv⟩ => ?_
  rcases hwritten with h | ⟨hclear, hset⟩
  · exact h hb
  · simp [hrawv hset] at hclear

/-! ## Registers that hold no value -/

@[simp] theorem visible_rawv (s : State) : (visible s).rawv = s.rawv := rfl
@[simp] theorem visible_seq (s : State) : (visible s).seq = s.seq := rfl
@[simp] theorem visible_pend (s : State) : (visible s).pend = s.pend := rfl
@[simp] theorem visible_awaiting (s : State) : (visible s).awaiting = s.awaiting := rfl
@[simp] theorem visible_resetReq (s : State) : (visible s).resetReq = s.resetReq := rfl
@[simp] theorem visible_callers (s : State) : (visible s).callers = s.callers := rfl
@[simp] theorem visible_writeAns (s : State) : (visible s).writeAns = s.writeAns := rfl
@[simp] theorem visible_readAns (s : State) : (visible s).readAns = s.readAns := rfl
@[simp] theorem visible_delayAns (s : State) : (visible s).delayAns = s.delayAns := rfl
@[simp] theorem visible_draws (s : State) : (visible s).draws = s.draws := rfl
@[simp] theorem visible_busy (s : State) : (visible s).busy = s.busy := rfl

@[simp] theorem visible_vf (s : State) : (visible s).vf = s.vf := rfl
@[simp] theorem visible_vc (s : State) : (visible s).vc = s.vc := rfl
@[simp] theorem visible_vh (s : State) : (visible s).vh = s.vh := rfl
@[simp] theorem visible_err (s : State) : (visible s).err = s.err := rfl
@[simp] theorem visible_stat (s : State) : (visible s).stat = s.stat := rfl
@[simp] theorem visible_valid (s : State) : (visible s).valid = s.valid := rfl
@[simp] theorem visible_outTF (s : State) : (visible s).outTF = if s.vf then s.outTF else 0 := rfl
@[simp] theorem visible_outTC (s : State) : (visible s).outTC = if s.vc then s.outTC else 0 := rfl
@[simp] theorem visible_outH (s : State) : (visible s).outH = if s.vh then s.outH else 0 := rfl

theorem visible_pol {s : State} (hs : s.seq ≠ .idle) : (visible s).pol = s.pol := if_neg hs

theorem visible_b {s : State} (hr : s.rawv = true) : (visible s).b = s.b := if_pos hr

/-- Erasing what is erased changes nothing. -/
theorem erase_erased {α : Type} (c : Prop) [Decidable c] (x e : α) :
    (if c then (if c then x else e) else e) = if c then x else e := by
  split <;> rfl

theorem erase_erased_else {α : Type} (c : Prop) [Decidable c] (x e : α) :
    (if c then e else if c then e else x) = if c then e else x := by
  split <;> rfl

@[simp] theorem visible_visible (s : State) : visible (visible s) = visible s := by
  ext1 <;> simp [visible, erase_erased, erase_erased_else]

theorem visible_startQuery (s : State) (m : QMask) :
    visible ((visible s).startQuery m) = visible (s.startQuery m) := by
  ext1 <;> simp [visible]

theorem visible_setPolicy (s : State) (p : Policy) : (visible s).setPolicy p = visible (s.setPolicy p) := rfl
theorem visible_illegal (s : State) : (visible s).illegal = visible s.illegal := rfl
theorem visible_issue (s : State) (r : Request) : (visible s).issue r = visible (s.issue r) := rfl
theorem visible_takeWriteAns (s : State) (st : Status) (l : List Status) :
    (visible s).takeWriteAns st l = visible (s.takeWriteAns st l) := rfl
theorem visible_takeDelayDone (s : State) (n : Nat) :
    (visible s).takeDelayDone n = visible (s.takeDelayDone n) := rfl
theorem visible_takeReadAns (s : State) (w : ReadWord) (l : List ReadWord) :
    (visible s).takeReadAns w l = visible (s.takeReadAns w l) := rfl

theorem visible_clearRaw (s : State) : visible (visible s).clearRaw = visible s.clearRaw := by
  ext1 <;> simp [visible, erase_erased, erase_erased_else] <;> rfl

theorem visible_goto {s : State} (hs : s.seq ≠ .idle) (p : Phase) :
    visible ((visible s).goto p) = visible (s.goto p) := by
  ext1 <;> simp [visible, hs, erase_erased] <;> rfl

theorem visible_trapEntry {s : State} (hs : s.seq ≠ .idle) (k : ErrKind) (st : Status) :
    visible ((visible s).trapEntry k st) = visible (s.trapEntry k st) := by
  ext1 <;> simp [visible, hs]

/-- The successful end of a block read overwrites whatever B[0..3] held (R73). -/
theorem visible_loadSample_goto {s : State} (hs : s.seq ≠ .idle) (x : RawSample) :
    visible (((visible s).loadSample x).goto .dec) = visible ((s.loadSample x).goto .dec) := by
  ext1 <;> simp [visible, hs, erase_erased] <;> rfl

theorem validField_erased (v : Bool) (x e : OutWord) : validField v (if v then x else e) = validField v x := by
  cases v <;> rfl

/-- A response reads a register only while its flag is 1 (R109). -/
theorem visible_response {s : State} (hs : s.seq ≠ .idle) : (visible s).response = s.response := by
  simp [State.response, visible_pol hs, validField_erased]

theorem visible_respond {s : State} (hs : s.seq ≠ .idle) : visible (visible s).respond = visible s.respond := by
  ext1 <;> simp [visible]
  exact visible_response hs

/-- An output register is read only where its flag was set before or is set now. -/
theorem erase_unwritten {α : Type} (c v : Prop) [Decidable c] [Decidable v] (x o e : α) :
    (if c ∨ v then (if c then x else if v then o else e) else e) =
      if c ∨ v then (if c then x else o) else e := by
  by_cases hc : c <;> by_cases hv : v <;> simp [hc, hv]

theorem visible_dispatchShared {s : State} (hs : s.seq ≠ .idle) (r : Reading) :
    visible ((visible s).dispatchShared r) = visible (s.dispatchShared r) := by
  ext1 <;> simp [visible, State.dispatchShared, hs, erase_unwritten]

theorem visible_dispatchOne {s : State} (hs : s.seq ≠ .idle) (q : Quantity) (r : Reading) :
    visible ((visible s).dispatchOne q r) = visible (s.dispatchOne q r) := by
  cases q <;> ext1 <;> simp [visible, State.dispatchOne, hs, erase_erased]

/-! Every meaning commutes with the erasure. -/

theorem acceptedIn_visible {s e e' : State} (he : visible e' = visible e) :
    mapNext visible (acceptedIn s e) = mapNext visible (acceptedIn (visible s) e') := by
  unfold acceptedIn
  cases hb : s.busy <;> simp [hb, mapNext, he]

theorem afterWrite_visible {s : State} (hs : s.seq ≠ .idle) (st : Status) :
    visible ((visible s).afterWrite st) = visible (s.afterWrite st) := by
  unfold State.afterWrite
  split
  · exact visible_trapEntry hs _ st
  · exact visible_goto hs _

theorem execTrigWrite_visible (s : State) :
    mapNext visible (execTrigWrite s) = mapNext visible (execTrigWrite (visible s)) := by
  by_cases hs : s.seq = .trig
  · have hbusy : s.seq ≠ .idle := by simp [hs]
    cases ha : s.awaiting with
    | false =>
      have hissue : visible ((visible s).clearRaw.issue trigRequest) = visible (s.clearRaw.issue trigRequest) := by
        rw [← visible_issue, visible_clearRaw, visible_issue]
      simp [execTrigWrite, hs, ha, mapNext, hissue]
    | true =>
      cases hw : s.writeAns with
      | nil => simp [execTrigWrite, hs, ha, hw, mapNext]
      | cons st rest =>
        have htaken : (s.takeWriteAns st rest).seq ≠ .idle := hbusy
        simp [execTrigWrite, hs, ha, hw, mapNext, visible_takeWriteAns, afterWrite_visible htaken]
  · simp [execTrigWrite, hs, mapNext]

theorem execWait40_visible (s : State) :
    mapNext visible (execWait40 s) = mapNext visible (execWait40 (visible s)) := by
  by_cases hs : s.seq = .wait
  · cases ha : s.awaiting with
    | false => simp [execWait40, hs, ha, mapNext, visible_issue]
    | true =>
      cases hd : s.delayAns with
      | zero => simp [execWait40, hs, ha, hd, mapNext]
      | succ n =>
        have htaken : (s.takeDelayDone n).seq ≠ .idle := by simp [hs]
        simp [execWait40, hs, ha, hd, mapNext, visible_takeDelayDone, visible_goto htaken]
  · simp [execWait40, hs, mapNext]

theorem afterRead_visible {s : State} (hs : s.seq ≠ .idle) (a : ReadAnswer) :
    visible ((visible s).afterRead a) = visible (s.afterRead a) := by
  unfold State.afterRead
  split
  · split
    · exact visible_trapEntry hs _ _
    · exact visible_loadSample_goto hs _
  · exact visible_trapEntry hs _ _

theorem execBlkRead_visible (s : State) :
    mapNext visible (execBlkRead s) = mapNext visible (execBlkRead (visible s)) := by
  by_cases hs : s.seq = .read
  · cases ha : s.awaiting with
    | false => simp [execBlkRead, hs, ha, mapNext, visible_issue]
    | true =>
      cases hr : s.readAns with
      | nil => simp [execBlkRead, hs, ha, hr, mapNext]
      | cons w rest =>
        have htaken : (s.takeReadAns w rest).seq ≠ .idle := by simp [hs]
        simp [execBlkRead, hs, ha, hr, mapNext, visible_takeReadAns, afterRead_visible htaken]
  · simp [execBlkRead, hs, mapNext]

theorem exec_visible (i : Instr) (s : State) :
    mapNext visible (exec i s) = mapNext visible (exec i (visible s)) := by
  cases i with
  | readTempF => exact acceptedIn_visible (visible_startQuery s _)
  | readTempC => exact acceptedIn_visible (visible_startQuery s _)
  | readHumid => exact acceptedIn_visible (visible_startQuery s _)
  | readTempHumid => exact acceptedIn_visible (visible_startQuery s _)
  | readAll => exact acceptedIn_visible (visible_startQuery s _)
  | setPolicy p => exact acceptedIn_visible (by rw [visible_setPolicy, visible_visible])
  | trigWrite => exact execTrigWrite_visible s
  | wait40 => exact execWait40_visible s
  | blkRead => exact execBlkRead_visible s

theorem rejectWord_visible (r : Reject) (s : State) :
    mapNext visible (rejectWord r s) = mapNext visible (rejectWord r (visible s)) := by
  cases r <;> simp [rejectWord, mapNext, visible_illegal]

/-- The dispatch step reads B[0..3] only with RAWV = 1, and faults alike otherwise (R10). -/
theorem dispatchStep_visible {s : State} (hs : s.seq ≠ .idle) :
    mapNext visible (dispatchStep s) = mapNext visible (dispatchStep (visible s)) := by
  cases hv : s.rawv with
  | false => simp [dispatchStep, hv, mapNext]
  | true =>
    cases hp : s.pol with
    | shared =>
      simp [dispatchStep, hv, visible_pol hs, visible_b hv, hp, mapNext, visible_dispatchShared hs]
    | perQuantity =>
      cases hq : maskLowest s.pend <;>
        simp [dispatchStep, hv, visible_pol hs, visible_b hv, hp, hq, mapNext, visible_dispatchOne hs]

/-- Where a step takes an instruction word from a state, it takes the same from the erased one. -/
theorem fetch_visible_code {s s' : State} {c : Code} (hf : s.fetch = .code c s') :
    (visible s).fetch = .code c (visible s') := by
  cases hs : s.seq with
  | idle =>
    cases ho : chooseOffer s.draws (offers s.callers) with
    | none => simp [State.fetch, hs, ho] at hf
    | some o =>
      obtain ⟨w, rest⟩ := o
      rw [fetch_of_choice hs ho] at hf
      cases hf
      exact fetch_of_choice hs ho
  | trig => cases (fetch_trig hs).symm.trans hf; exact fetch_trig hs
  | wait => cases (fetch_wait hs).symm.trans hf; exact fetch_wait hs
  | read => cases (fetch_read hs).symm.trans hf; exact fetch_read hs
  | dec => simp [State.fetch, hs] at hf
  | resp => simp [State.fetch, hs] at hf

theorem step_visible_of_code {s s' : State} {c : Code} (hr : s.resetReq = false) (hf : s.fetch = .code c s') :
    mapNext visible (step s) = mapNext visible (step (visible s)) := by
  have hf' := fetch_visible_code hf
  cases hd : decode c with
  | instr i =>
    rw [stepRunsDecodedInstruction s s' c i hr hf hd, stepRunsDecodedInstruction (visible s) _ c i hr hf' hd]
    exact exec_visible i s'
  | reject r =>
    rw [step_of_reject hr hf hd, step_of_reject (s := visible s) hr hf' hd]
    exact rejectWord_visible r s'

/-- Settles O53: case by case of what the phase does, the step from a state and the step from the erased one
differ in erased registers only. -/
theorem unreadRegistersNeverMatter : Obligations.UnreadRegistersNeverMatter := by
  intro s
  cases hr : s.resetReq with
  | true => rw [step_reset hr, step_reset (s := visible s) hr]; rfl
  | false =>
    cases hs : s.seq with
    | idle =>
      cases ho : chooseOffer s.draws (offers s.callers) with
      | none =>
        rw [step_of_no_choice hr hs ho, step_of_no_choice (s := visible s) hr hs ho]
        simp [mapNext]
      | some o => exact step_visible_of_code hr (fetch_of_choice hs ho)
    | trig => exact step_visible_of_code hr (fetch_trig hs)
    | wait => exact step_visible_of_code hr (fetch_wait hs)
    | read => exact step_visible_of_code hr (fetch_read hs)
    | dec =>
      rw [step_dec hr hs, step_dec (s := visible s) hr hs]
      exact dispatchStep_visible (by simp [hs])
    | resp =>
      rw [step_resp hr hs, step_resp (s := visible s) hr hs]
      exact congrArg Host.Outcome.next (visible_respond (by simp [hs])).symm

end Sys2Proof.Proofs

/-! Proofs of the statements of spec/20_memory.md: the order of events, the command port while BUSY = 1, and
the micro-operations' requests. -/

namespace Sys2Proof.Proofs

open Sys2Proof.Machine Sys2Proof.Safety

/-! ## The order of events -/

/-- Settles O39, by the cases of a step: the events each one records lead the trace from where the registers
before the step say it stands to where those after it say. -/
theorem stepKeepsTheEventOrder : Obligations.StepKeepsTheEventOrder := fun _ _ => step_inOrder

/-! ## The command port while BUSY = 1 -/

/-- Only an event of IDLE is a `Cmd` (R38). -/
theorem StepEvents.cmd_not_mem {s : State} {es : List Event} (h : StepEvents s es) (hs : s.seq ≠ .idle)
    (w : CmdWord) : .cmd w ∉ es := by
  cases h with
  | query hidle => exact absurd hidle hs
  | answered hidle => exact absurd hidle hs
  | _ => simp

/-- Storing the sample or raising the failure leaves the command port alone. -/
@[simp] theorem afterRead_callers (a : ReadAnswer) (s : State) : (s.afterRead a).callers = s.callers := by
  rcases afterRead_cases a s with ⟨-, h⟩ | ⟨-, -, h⟩ | ⟨_, _, _, _, _, -, -, h⟩ <;> simp [h]

/-- A micro-operation leaves the command port alone (R71 to R73, R140). -/
theorem microStep_callers {s t : State} (hx : MicroStep s t) : t.callers = s.callers := by
  rcases hx with hx | hx | hx
  · obtain ⟨-, ⟨-, rfl⟩ | ⟨-, -, rfl⟩ | ⟨st, rest, -, -, ⟨-, rfl⟩ | ⟨-, rfl⟩⟩⟩ := execTrigWrite_next hx <;> rfl
  · obtain ⟨-, ⟨-, rfl⟩ | ⟨-, -, rfl⟩ | ⟨n, -, -, rfl⟩⟩ := execWait40_next hx <;> rfl
  · obtain ⟨-, ⟨-, rfl⟩ | ⟨-, -, rfl⟩ | ⟨w, rest, -, -, rfl⟩⟩ := execBlkRead_next hx
    · rfl
    · rfl
    · simp

theorem dispatchStep_callers {s t : State} (hx : dispatchStep s = .next t) : t.callers = s.callers := by
  obtain ⟨-, ⟨-, rfl⟩ | ⟨q, -, -, rfl⟩⟩ := dispatchStep_next hx
  · simp [State.dispatchShared]
  · simp [State.dispatchOne]

/-- Outside IDLE no word leaves the port (R105, R140). -/
theorem step_callers_of_busy {s t : State} (hs : s.seq ≠ .idle) (hx : step s = .next t) :
    t.callers = s.callers := by
  obtain ⟨-, rfl⟩ | ⟨-, ⟨hidle, -⟩ | ⟨hidle, -⟩ | ⟨hidle, -⟩ | ⟨hidle, -⟩ | htrig | hwait | hread |
    ⟨-, hdec⟩ | ⟨-, rfl⟩⟩ := step_cases hx
  · rfl
  · exact absurd hidle hs
  · exact absurd hidle hs
  · exact absurd hidle hs
  · exact absurd hidle hs
  · exact microStep_callers (.inl htrig)
  · exact microStep_callers (.inr (.inl hwait))
  · exact microStep_callers (.inr (.inr hread))
  · exact dispatchStep_callers hdec
  · rfl

/-- Settles O14: outside IDLE a step takes no word off the port, and no event its phase allows is a `Cmd`. -/
theorem busyStepAcceptsNoCommand : Obligations.BusyStepAcceptsNoCommand := fun _ _ _ hs hx =>
  have ⟨es, htr, hes⟩ := step_records hx
  ⟨step_callers_of_busy hs hx, es, htr, hes.cmd_not_mem hs⟩

/-! ## The requests of the micro-operations -/

/-- A block that waits for an answer its port does not hold (R40, R141). -/
def Unanswered (s : State) : Prop :=
  s.seq = .trig ∧ s.writeAns = [] ∨ s.seq = .wait ∧ s.delayAns = 0 ∨ s.seq = .read ∧ s.readAns = []

/-- Without its answer the second half of a micro-operation leaves the state as it is (R141, log entry 4). -/
theorem step_of_unanswered {s : State} (hr : s.resetReq = false) (ha : s.awaiting = true)
    (hu : Unanswered s) : step s = .next s := by
  rcases hu with ⟨hs, hport⟩ | ⟨hs, hport⟩ | ⟨hs, hport⟩
  · rw [step_trig hr hs]
    simp [execTrigWrite, hs, ha, hport]
  · rw [step_wait hr hs]
    simp [execWait40, hs, ha, hport]
  · rw [step_read hr hs]
    simp [execBlkRead, hs, ha, hport]

/-- A state that a step leaves as it is, every run leaves as it is. -/
theorem run_of_step_self {s : State} (h : step s = .next s) (k : Nat) : Sys2Proof.core.run k s = .next s := by
  induction k with
  | zero => exact run_zero s
  | succ k ih => rw [run_succ h, ih]

/-- Settles O20, by induction on the number of steps: the unanswered state is its own next state. -/
theorem unansweredRequestHoldsTheBlock : Obligations.UnansweredRequestHoldsTheBlock :=
  fun _ k hr ha hu => run_of_step_self (step_of_unanswered hr ha hu) k

/-- Settles O19: each micro-operation asks for its own phase first. -/
theorem microOperationStopsOutsideItsPhase : Obligations.MicroOperationStopsOutsideItsPhase := fun _ =>
  ⟨fun hs => if_neg hs, fun hs => if_neg hs, fun hs => if_neg hs⟩

end Sys2Proof.Proofs

/-! Proofs of the statements of spec/30_encoding.md: the instruction words, the packed formats, and the records
a run emits. -/

namespace Sys2Proof.Proofs

open Sys2Proof.Machine Sys2Proof.Safety

/-! ## The instruction words -/

/-- Every instruction comes back from its word (R51 to R55). -/
theorem decode_encode (i : Instr) : decode (encode i) = .instr i := by
  have hi : Laws.Encoding.Statement i := by
    cases i with
    | readTempF => exact Laws.Encoding.readTempF
    | readTempC => exact Laws.Encoding.readTempC
    | readHumid => exact Laws.Encoding.readHumid
    | readTempHumid => exact Laws.Encoding.readTempHumid
    | readAll => exact Laws.Encoding.readAll
    | setPolicy p => exact Laws.Encoding.setPolicy p
    | trigWrite => exact Laws.Encoding.trigWrite
    | wait40 => exact Laws.Encoding.wait40
    | blkRead => exact Laws.Encoding.blkRead
  exact hi.2

/-- A word with K = 0 is the query word of its mask (R51). -/
theorem queryWord_mask {w : CmdWord} (hk : CmdWord.isConfig w = false) : queryWord (CmdWord.mask w) = w := by
  revert w
  decide

/-- A word with K = 1 and bits 2:1 zero is the `set_policy` word of its policy bit (R51). -/
theorem policyWord_policy {w : CmdWord} (hk : CmdWord.isConfig w = true) (hz : CmdWord.zeroField w = 0) :
    policyWord (CmdWord.policy w) = w := by
  revert w
  decide

/-- A mask selects the query whose word holds it (R52). -/
theorem encode_of_decodeQuery {m : QMask} {i : Instr} (h : decodeQuery m = some i) :
    encode i = .cmd (queryWord m) := by
  unfold decodeQuery at h
  repeat' split at h
  all_goals cases h
  all_goals subst m; rfl

/-- A command word means no instruction but the one it encodes (R51 to R53). -/
theorem encode_of_decodeCmd {w : CmdWord} {i : Instr} (h : decodeCmd w = .instr i) : encode i = .cmd w := by
  unfold decodeCmd at h
  split at h
  · next hk =>
    split at h <;> cases h
    next hz => rw [encode, policyWord_policy hk hz]
  · next hk =>
    split at h <;> cases h
    next hq => rw [encode_of_decodeQuery hq, queryWord_mask (Bool.eq_false_of_not_eq_true hk)]

/-- A request word is made of its four fields (R54). -/
theorem reqWord_fields (t : ReqWord) :
    reqWord (ReqWord.op t) (ReqWord.dev t) (ReqWord.reg t) (ReqWord.len t) = t := by
  unfold reqWord ReqWord.op ReqWord.dev ReqWord.reg ReqWord.len
  rw [BitVec.extractLsb'_append_extractLsb'_eq_extractLsb' (start₁ := 16) (len₁ := 7) (start₂ := 23) rfl,
    BitVec.extractLsb'_append_extractLsb'_eq_extractLsb' (start₁ := 8) (len₁ := 8) (start₂ := 16) rfl,
    BitVec.extractLsb'_append_extractLsb'_eq_extractLsb' (start₁ := 0) (len₁ := 8) (start₂ := 8) rfl,
    BitVec.extractLsb'_eq_self]

/-- The four codes of OP (R54). -/
theorem op_eq_three {op : BitVec 2} (h0 : op ≠ 0b00) (h1 : op ≠ 0b01) (h2 : op ≠ 0b10) : op = 0b11 := by
  revert op
  decide

/-- A request word means no micro-operation but the one it encodes (R54, R55). -/
theorem encode_of_decodeReq {t : ReqWord} {i : Instr} (h : decodeReq t = .instr i) : encode i = .req t := by
  rw [← reqWord_fields t]
  unfold decodeReq at h
  split at h
  · cases h
  next hop0 =>
  split at h
  · next hop1 =>
    split at h <;> cases h
    next hfields =>
    obtain ⟨hdev, hreg, hlen⟩ := hfields
    rw [encode, trigWord, hop1, hdev, hreg, hlen]
  next hop1 =>
  split at h
  · next hop2 =>
    split at h <;> cases h
    next hfields =>
    obtain ⟨hdev, hreg, hlen⟩ := hfields
    rw [encode, readWord, hop2, hdev, hreg, hlen]
  next hop2 =>
  split at h <;> cases h
  next hfields =>
  obtain ⟨hdev, hreg, hlen⟩ := hfields
  rw [encode, waitWord, op_eq_three hop0 hop1 hop2, hdev, hreg, hlen]

/-- Settles O9: every instruction comes back from its word, and a word of either format that decodes to an
instruction is put together again from its fields as that instruction's encoding. -/
theorem decodeInvertsEncode : Obligations.DecodeInvertsEncode := by
  refine fun c i => ⟨fun h => ?_, fun h => h ▸ decode_encode i⟩
  cases c with
  | cmd w => exact encode_of_decodeCmd h
  | req t => exact encode_of_decodeReq h

/-- A word written out decodes to the instruction whose encoding it is. -/
theorem decode_of_encode {c : Code} {i : Instr} (h : encode i = c) : decode c = .instr i :=
  (decodeInvertsEncode c i).2 h

/-- Settles O7: each word written out is the encoding of its instruction. -/
theorem writtenOutWordsDecode : Obligations.WrittenOutWordsDecode := by
  refine ⟨?_, ?_, ?_, ?_, ?_, ?_, ?_, ?_, ?_, ?_⟩ <;> exact decode_of_encode (by decide)

/-- Settles O8, word by word. -/
theorem reservedCommandWordsAreRejected : Obligations.ReservedCommandWordsAreRejected := by
  unfold Obligations.ReservedCommandWordsAreRejected
  decide

/-- Settles O10: DEV, REG and LEN of each request stand in its word as in the word of its micro-operation. -/
theorem emittedRequestsPackToTheirWords : Obligations.EmittedRequestsPackToTheirWords :=
  ⟨by decide, by decide, by decide, rfl, rfl, rfl⟩

/-! ## The packed formats -/

/-- A field of a word, from its bits. -/
theorem extractLsb'_eq_of_getLsbD {n len start : Nat} {x : BitVec n} {y : BitVec len}
    (h : ∀ i < len, x.getLsbD (start + i) = y.getLsbD i) : x.extractLsb' start len = y :=
  BitVec.eq_of_getLsbD_eq fun i hi => by
    rw [BitVec.getLsbD_extractLsb', decide_eq_true hi, Bool.true_and, h i hi]

/-! Each field of a packed response stands at its bits (R58). -/

theorem packResponse_err (r : Response) : (packResponse r).extractLsb' 84 2 = errCode r.err :=
  extractLsb'_eq_of_getLsbD fun i hi => by grind [packResponse_getLsbD]

theorem packResponse_pol (r : Response) : (packResponse r).getLsbD 83 = r.pol.bit := by
  rw [packResponse_getLsbD]
  simp

theorem packResponse_v (r : Response) : (packResponse r).extractLsb' 80 3 = r.v :=
  extractLsb'_eq_of_getLsbD fun i hi => by grind [packResponse_getLsbD]

theorem packResponse_stat (r : Response) : (packResponse r).extractLsb' 48 32 = r.stat :=
  extractLsb'_eq_of_getLsbD fun i hi => by grind [packResponse_getLsbD]

theorem packResponse_tf (r : Response) : (packResponse r).extractLsb' 32 16 = outField r.tf :=
  extractLsb'_eq_of_getLsbD fun i hi => by grind [packResponse_getLsbD]

theorem packResponse_tc (r : Response) : (packResponse r).extractLsb' 16 16 = outField r.tc :=
  extractLsb'_eq_of_getLsbD fun i hi => by grind [packResponse_getLsbD]

theorem packResponse_h (r : Response) : (packResponse r).extractLsb' 0 16 = outField r.h :=
  extractLsb'_eq_of_getLsbD fun i hi => by grind [packResponse_getLsbD]

/-- The valid bit of the quantity with mask bit `i` (R13, R58). -/
theorem packResponse_valid (r : Response) {i : Nat} (hi : i < 3) :
    (packResponse r).getLsbD (80 + i) = r.v.getLsbD i := by
  grind [packResponse_getLsbD]

theorem outField_eq_getD (x : Option OutWord) : outField x = x.getD 0 := by
  cases x <;> rfl

/-- Settles O30: the fields stand at their bits, and their codes are those of R16 and R14. -/
theorem responseFieldsStandAtTheirBits : Obligations.ResponseFieldsStandAtTheirBits := by
  intro r
  refine ⟨?_, ?_, packResponse_v r, packResponse_stat r, ?_, ?_, ?_⟩
  · rw [packResponse_err]
    cases r.err <;> rfl
  · rw [packResponse_pol]
    cases r.pol <;> rfl
  · rw [packResponse_tf, outField_eq_getD]
  · rw [packResponse_tc, outField_eq_getD]
  · rw [packResponse_h, outField_eq_getD]

@[simp] theorem errOfCode_errCode (k : ErrKind) : errOfCode (errCode k) = k := by
  cases k <;> rfl

@[simp] theorem ofBit_bit (p : Policy) : Policy.ofBit p.bit = p := by
  cases p <;> rfl

/-- A value field that is present exactly when its valid bit is 1 is read back (R58). -/
@[simp] theorem readField_outField (x : Option OutWord) : readField x.isSome (outField x) = x := by
  cases x <;> rfl

/-- All that a well-formed response keeps to (R58, R129, R16). -/
theorem response_wf_iff (r : Response) : r.wf = true ↔
    r.v.getLsbD 0 = r.tf.isSome ∧ r.v.getLsbD 1 = r.tc.isSome ∧ r.v.getLsbD 2 = r.h.isSome ∧
      (r.err = .none ∨ r.v = 0) ∧ ((r.err = .writeFail ∨ r.err = .readFail) ↔ r.stat ≠ 0) := by
  have hstat : ((r.err == .writeFail || r.err == .readFail) = (r.stat != 0)) ↔
      ((r.err = .writeFail ∨ r.err = .readFail) ↔ r.stat ≠ 0) := by
    rw [Bool.eq_iff_iff]
    simp
  simp only [Response.wf, Bool.and_eq_true, Bool.or_eq_true, beq_iff_eq, and_assoc, hstat]

/-- Settles O29: every field is read from the bits it stands at, and a valid bit says whether its value is
present. -/
theorem responseWordRoundTrip : Obligations.ResponseWordRoundTrip := by
  intro r hr
  obtain ⟨htf, htc, hh, -, -⟩ := (response_wf_iff r).1 hr
  have hvf : (packResponse r).getLsbD 80 = r.tf.isSome := htf ▸ packResponse_valid r (i := 0) (by omega)
  have hvc : (packResponse r).getLsbD 81 = r.tc.isSome := htc ▸ packResponse_valid r (i := 1) (by omega)
  have hvh : (packResponse r).getLsbD 82 = r.h.isSome := hh ▸ packResponse_valid r (i := 2) (by omega)
  simp only [unpackResponse, packResponse_err, packResponse_pol, packResponse_v, packResponse_stat,
    packResponse_tf, packResponse_tc, packResponse_h, hvf, hvc, hvh, errOfCode_errCode, ofBit_bit,
    readField_outField]

/-! Each field of a packed read answer stands at its bits (R57). -/

theorem packReadAnswer_status (a : ReadAnswer) : (packReadAnswer a).extractLsb' 0 32 = a.status :=
  extractLsb'_eq_of_getLsbD fun i hi => by grind [packReadAnswer_getLsbD]

theorem packReadAnswer_d0 (a : ReadAnswer) : (packReadAnswer a).extractLsb' 56 8 = answerByte a 0 :=
  extractLsb'_eq_of_getLsbD fun i hi => by grind [packReadAnswer_getLsbD]

theorem packReadAnswer_d1 (a : ReadAnswer) : (packReadAnswer a).extractLsb' 48 8 = answerByte a 1 :=
  extractLsb'_eq_of_getLsbD fun i hi => by grind [packReadAnswer_getLsbD]

theorem packReadAnswer_d2 (a : ReadAnswer) : (packReadAnswer a).extractLsb' 40 8 = answerByte a 2 :=
  extractLsb'_eq_of_getLsbD fun i hi => by grind [packReadAnswer_getLsbD]

theorem packReadAnswer_d3 (a : ReadAnswer) : (packReadAnswer a).extractLsb' 32 8 = answerByte a 3 :=
  extractLsb'_eq_of_getLsbD fun i hi => by grind [packReadAnswer_getLsbD]

theorem packReadAnswer_count (a : ReadAnswer) :
    (packReadAnswer a).extractLsb' 64 3 = BitVec.ofNat 3 a.data.length :=
  extractLsb'_eq_of_getLsbD fun i hi => by grind [packReadAnswer_getLsbD]

/-- At most 4 bytes are counted by field N (R32, R57). -/
theorem readCount_packReadAnswer {a : ReadAnswer} (ha : a.data.length ≤ 4) :
    readCount (packReadAnswer a) = a.data.length := by
  rw [readCount, packReadAnswer_count, BitVec.toNat_ofNat]
  omega

/-- At most 4 bytes are the first ones of the four places of the word. -/
theorem take_answerBytes {a : ReadAnswer} (ha : a.data.length ≤ 4) :
    [answerByte a 0, answerByte a 1, answerByte a 2, answerByte a 3].take a.data.length = a.data := by
  obtain ⟨data, st⟩ := a
  match data with
  | [] => rfl
  | [_] => rfl
  | [_, _] => rfl
  | [_, _, _] => rfl
  | [_, _, _, _] => rfl
  | _ :: _ :: _ :: _ :: _ :: _ => exact absurd ha (by simp)

/-- Settles O31: field N says how many of the four bytes were delivered. -/
theorem readAnswerWordRoundTrip : Obligations.ReadAnswerWordRoundTrip := by
  intro a ha
  have hlen : a.data.length ≤ 4 := of_decide_eq_true ha
  rw [unpackReadAnswer, readCount_packReadAnswer hlen, packReadAnswer_status, packReadAnswer_d0,
    packReadAnswer_d1, packReadAnswer_d2, packReadAnswer_d3, take_answerBytes hlen]

/-- Settles O32: the bytes are the first ones of the four, as many as the count says. -/
theorem readAnswerFieldsStandAtTheirBits : Obligations.ReadAnswerFieldsStandAtTheirBits := fun w =>
  ⟨rfl, unpackReadAnswer_length w, List.take_prefix _ _⟩

/-! ## The records a run emits -/

/-- The record an event carries out of the block, a request or a response, is well formed. -/
def EmitsWellFormed : Event → Prop
  | .request r => r.wf = true
  | .resp r => r.wf = true
  | _ => True

/-- The flags are the valid bits of their quantities (R15, R58). -/
theorem valid_getLsbD (s : State) :
    s.valid.getLsbD 0 = s.vf ∧ s.valid.getLsbD 1 = s.vc ∧ s.valid.getLsbD 2 = s.vh := by
  unfold State.valid
  cases s.vf <;> cases s.vc <;> cases s.vh <;> decide

@[simp] theorem validField_isSome (flag : Bool) (x : OutWord) : (validField flag x).isSome = flag := by
  cases flag <;> rfl

/-- What the registers hold makes a well-formed response (R109). -/
theorem response_wf {s : State} (h : Inv s) : s.response.wf = true := by
  obtain ⟨hf, hc, hh⟩ := valid_getLsbD s
  have herror : (s.err = .none ∨ s.valid = 0) ∧
      ((s.err = .writeFail ∨ s.err = .readFail) ↔ s.stat ≠ 0) := by
    obtain ⟨he, hst⟩ | ⟨hk, hst, -, hv⟩ := h.error_form
    · simp [he, hst]
    · exact ⟨.inr hv, iff_of_true hk hst⟩
  exact (response_wf_iff s.response).2 ⟨by simpa [State.response] using hf, by simpa [State.response] using hc,
    by simpa [State.response] using hh, herror⟩

/-- The responses `set_policy` and a reserved word have at once are well formed (R115, R116). -/
theorem bareResponse_wf {k : ErrKind} (p : Policy) (hk : k = .none ∨ k = .illegalCmd) :
    (bareResponse k p).wf = true := by
  rcases hk with rfl | rfl <;> simp [response_wf_iff, bareResponse]

/-! The requests of the micro-operations are the three of R55 (R71 to R73). -/

theorem trigRequest_wf : trigRequest.wf = true := by decide
theorem waitRequest_wf : waitRequest.wf = true := by decide
theorem readRequest_wf : readRequest.wf = true := by decide

/-- Outside IDLE a step emits one of the three requests or the response of its registers. -/
theorem StepEvents.emitsWellFormed {s : State} {es : List Event} (hes : StepEvents s es) (h : Inv s)
    (hs : s.seq ≠ .idle) : ∀ e ∈ es, EmitsWellFormed e := by
  cases hes with
  | query hidle => exact absurd hidle hs
  | answered hidle => exact absurd hidle hs
  | trigRequest => simp [EmitsWellFormed, trigRequest_wf]
  | waitRequest => simp [EmitsWellFormed, waitRequest_wf]
  | readRequest => simp [EmitsWellFormed, readRequest_wf]
  | response => simpa [EmitsWellFormed] using response_wf h
  | _ => simp [EmitsWellFormed]

/-- Every event of the trace carries a well-formed record. -/
def TraceWellFormed (s : State) : Prop := ∀ e ∈ s.trace, EmitsWellFormed e

theorem traceWellFormed_append {s t : State} {es : List Event} (h : TraceWellFormed s)
    (htr : t.trace = s.trace ++ es) (hes : ∀ e ∈ es, EmitsWellFormed e) : TraceWellFormed t := by
  unfold TraceWellFormed
  rw [htr]
  exact List.forall_mem_append.2 ⟨h, hes⟩

/-- A command word with the response it has at once (R115, R116). -/
theorem emitsWellFormed_answered (w : CmdWord) {k : ErrKind} (p : Policy) (hk : k = .none ∨ k = .illegalCmd) :
    ∀ e ∈ [.cmd w, .resp (bareResponse k p)], EmitsWellFormed e := by
  simpa [EmitsWellFormed] using bareResponse_wf p hk

/-- Every step keeps the records of the trace well formed. -/
theorem step_traceWellFormed {s t : State} (h : Inv s) (htrace : TraceWellFormed s) (hx : step s = .next t) :
    TraceWellFormed t := by
  by_cases hs : s.seq = .idle
  · cases hr : s.resetReq with
    | true =>
      rw [step_reset hr] at hx
      cases hx
      exact traceWellFormed_append htrace (State.applyReset_trace s) (by simp [EmitsWellFormed])
    | false =>
      obtain ⟨-, hk⟩ | ⟨w, rest, -, ⟨i, -, -, hk⟩ | ⟨p, -, hk⟩ | ⟨-, hk⟩⟩ := step_idle hr hs <;>
        rw [hk] at hx <;> cases hx
      · exact htrace
      · exact traceWellFormed_append htrace (es := [.cmd w]) (by simp) (by simp [EmitsWellFormed])
      · exact traceWellFormed_append htrace (by simp) (emitsWellFormed_answered w p (.inl rfl))
      · exact traceWellFormed_append htrace (by simp) (emitsWellFormed_answered w s.cfgPolicy (.inr rfl))
  · obtain ⟨es, htr, hes⟩ := step_records hx
    exact traceWellFormed_append htrace htr (hes.emitsWellFormed h hs)

theorem traceWellFormed_of_reachable {s : State} (hs : Reachable s) : TraceWellFormed s := by
  induction hs with
  | start => simp [TraceWellFormed, State.reset]
  | stepped hs hx ih => exact step_traceWellFormed (inv_of_reachable hs) ih hx
  | fed i _ ih =>
    unfold TraceWellFormed
    rw [input_trace]
    exact ih

/-- Settles O45, by induction on the run: the requests of the micro-operations are constants of R55, and the
register invariant makes the response of the registers well formed. -/
theorem emittedRecordsAreWellFormed : Obligations.EmittedRecordsAreWellFormed := fun _ hs =>
  have htrace := traceWellFormed_of_reachable hs
  ⟨fun r hr => htrace (.request r) hr, fun r hr => htrace (.resp r) hr⟩

end Sys2Proof.Proofs

/-! Proofs of the statements of spec/40_acquire.md: the micro-operations case by case, and the runs of a whole
command. -/

namespace Sys2Proof.Machine

/-- The state once the query `w` of the one caller has been accepted in IDLE; `ws` are the words it still holds
(R105, R106). -/
def State.asked (w : CmdWord) (ws : List CmdWord) (s : State) : State :=
  (s.accept w [ws]).startQuery (CmdWord.mask w)

/-! What every field is after an acquisition. -/

section
variable (s : State) (ans : List Status) (d : Nat) (as : List ReadWord) (x : RawSample)

@[simp] theorem State.acquired_b : (s.acquired ans d as x).b = x := rfl
@[simp] theorem State.acquired_rawv : (s.acquired ans d as x).rawv = true := rfl
@[simp] theorem State.acquired_seq : (s.acquired ans d as x).seq = .dec := rfl
@[simp] theorem State.acquired_pend : (s.acquired ans d as x).pend = s.pend := rfl
@[simp] theorem State.acquired_pol : (s.acquired ans d as x).pol = s.pol := rfl
@[simp] theorem State.acquired_vf : (s.acquired ans d as x).vf = s.vf := rfl
@[simp] theorem State.acquired_vc : (s.acquired ans d as x).vc = s.vc := rfl
@[simp] theorem State.acquired_vh : (s.acquired ans d as x).vh = s.vh := rfl
@[simp] theorem State.acquired_err : (s.acquired ans d as x).err = s.err := rfl
@[simp] theorem State.acquired_stat : (s.acquired ans d as x).stat = s.stat := rfl
@[simp] theorem State.acquired_outTF : (s.acquired ans d as x).outTF = s.outTF := rfl
@[simp] theorem State.acquired_outTC : (s.acquired ans d as x).outTC = s.outTC := rfl
@[simp] theorem State.acquired_outH : (s.acquired ans d as x).outH = s.outH := rfl
@[simp] theorem State.acquired_cfgPolicy : (s.acquired ans d as x).cfgPolicy = s.cfgPolicy := rfl
@[simp] theorem State.acquired_awaiting : (s.acquired ans d as x).awaiting = false := rfl
@[simp] theorem State.acquired_resetReq : (s.acquired ans d as x).resetReq = s.resetReq := rfl
@[simp] theorem State.acquired_callers : (s.acquired ans d as x).callers = s.callers := rfl
@[simp] theorem State.acquired_writeAns : (s.acquired ans d as x).writeAns = ans := rfl
@[simp] theorem State.acquired_readAns : (s.acquired ans d as x).readAns = as := rfl
@[simp] theorem State.acquired_delayAns : (s.acquired ans d as x).delayAns = d := rfl
@[simp] theorem State.acquired_valid : (s.acquired ans d as x).valid = s.valid := rfl
@[simp] theorem State.acquired_trace : (s.acquired ans d as x).trace =
    s.trace ++ acquisitionEvents ⟨[x.b0, x.b1, x.b2, x.b3], 0⟩ := rfl

end

end Sys2Proof.Machine

namespace Sys2Proof.Proofs

open Sys2Proof.Machine Sys2Proof.Safety

/-- Settles O40: each case of a step keeps the count. -/
theorem stepKeepsTheAcquisitionCount : Obligations.StepKeepsTheAcquisitionCount := fun _ _ => step_counted

/-! The requests of the micro-operations, written out (R55). -/

theorem trigRequest_eq : trigRequest = .busWrite 0x27 0x00 0 := rfl
theorem waitRequest_eq : waitRequest = .delay 40 := rfl
theorem readRequest_eq : readRequest = .busRead 0x27 0x00 4 := rfl

/-! ## Each half of a micro-operation in its phase -/

theorem execTrigWrite_issues {s : State} (hs : s.seq = .trig) (ha : s.awaiting = false) :
    execTrigWrite s = .next (s.clearRaw.issue trigRequest) := by
  simp [execTrigWrite, hs, ha]

/-- The answer a trigger write takes leads on as `afterWrite` says (R71, R126). -/
theorem execTrigWrite_takes {s : State} {st : Status} {rest : List Status} (hs : s.seq = .trig)
    (ha : s.awaiting = true) (hw : s.writeAns = st :: rest) :
    execTrigWrite s = .next ((s.takeWriteAns st rest).afterWrite st) := by
  simp [execTrigWrite, hs, ha, hw]

theorem execTrigWrite_waits {s : State} (hs : s.seq = .trig) (ha : s.awaiting = true) (hw : s.writeAns = []) :
    execTrigWrite s = .next s := by
  simp [execTrigWrite, hs, ha, hw]

@[simp] theorem afterWrite_zero (s : State) : s.afterWrite 0 = s.goto .wait := rfl

theorem afterWrite_of_ne_zero {st : Status} (hst : st ≠ 0) (s : State) :
    s.afterWrite st = s.trapEntry .writeFail st := if_pos hst

theorem execWait40_issues {s : State} (hs : s.seq = .wait) (ha : s.awaiting = false) :
    execWait40 s = .next (s.issue waitRequest) := by
  simp [execWait40, hs, ha]

theorem execWait40_takes {s : State} {n : Nat} (hs : s.seq = .wait) (ha : s.awaiting = true)
    (hd : s.delayAns = n + 1) : execWait40 s = .next ((s.takeDelayDone n).goto .read) := by
  simp [execWait40, hs, ha, hd]

theorem execWait40_waits {s : State} (hs : s.seq = .wait) (ha : s.awaiting = true) (hd : s.delayAns = 0) :
    execWait40 s = .next s := by
  simp [execWait40, hs, ha, hd]

theorem execBlkRead_issues {s : State} (hs : s.seq = .read) (ha : s.awaiting = false) :
    execBlkRead s = .next (s.issue readRequest) := by
  simp [execBlkRead, hs, ha]

/-- The answer a block read takes leads on as `afterRead` says (R73). -/
theorem execBlkRead_takes {s : State} {w : ReadWord} {rest : List ReadWord} (hs : s.seq = .read)
    (ha : s.awaiting = true) (hw : s.readAns = w :: rest) :
    execBlkRead s = .next ((s.takeReadAns w rest).afterRead (unpackReadAnswer w)) := by
  simp [execBlkRead, hs, ha, hw]

theorem execBlkRead_waits {s : State} (hs : s.seq = .read) (ha : s.awaiting = true) (hw : s.readAns = []) :
    execBlkRead s = .next s := by
  simp [execBlkRead, hs, ha, hw]

/-- Fewer than 4 bytes are an I/O error, whatever the status (R127). -/
theorem afterRead_of_short {a : ReadAnswer} (hlen : a.data.length < 4) (s : State) :
    s.afterRead a = s.trapEntry .readFail Config.ioErrorCode := by
  obtain ⟨-, heq⟩ | ⟨hfull, -⟩ | ⟨d0, d1, d2, d3, l, hdata, -⟩ := afterRead_cases a s
  · exact heq
  · omega
  · simp only [hdata, List.length_cons] at hlen
    omega

/-- All 4 bytes with a non-zero status are a failure with that status (R128). -/
theorem afterRead_of_error {a : ReadAnswer} (hlen : 4 ≤ a.data.length) (hst : a.status ≠ 0) (s : State) :
    s.afterRead a = s.trapEntry .readFail a.status := by
  obtain ⟨hshort, -⟩ | ⟨-, -, heq⟩ | ⟨-, -, -, -, -, -, hzero, -⟩ := afterRead_cases a s
  · omega
  · exact heq
  · exact absurd hzero hst

/-- All 4 bytes with status 0 are the sample (R74). -/
theorem afterRead_of_sample {a : ReadAnswer} {d0 d1 d2 d3 : Byte} (ha : a = ⟨[d0, d1, d2, d3], 0⟩) (s : State) :
    s.afterRead a = (s.loadSample ⟨d0, d1, d2, d3⟩).goto .dec := by
  subst ha
  rfl

/-- Settles O16: the request, the two kinds of answer, and no answer. -/
theorem trigWriteFollowsItsRule : Obligations.TrigWriteFollowsItsRule := by
  refine fun s hs => ⟨execTrigWrite_issues hs, fun st rest ha hw hst => ?_, fun st rest ha hw hst => ?_,
    execTrigWrite_waits hs⟩
  · subst hst
    exact (execTrigWrite_takes hs ha hw).trans (congrArg _ (afterWrite_zero _))
  · exact (execTrigWrite_takes hs ha hw).trans (congrArg _ (afterWrite_of_ne_zero hst _))

/-- Settles O17: the word, the request, the completion, and none. -/
theorem wait40FollowsItsRule : Obligations.Wait40FollowsItsRule :=
  ⟨by decide, fun _ hs => ⟨execWait40_issues hs, fun _ => execWait40_takes hs, execWait40_waits hs⟩⟩

/-- Settles O18: the request, the short, the failing and the full answer, and none. -/
theorem blkReadFollowsItsRule : Obligations.BlkReadFollowsItsRule := by
  refine fun s hs => ⟨execBlkRead_issues hs, fun w rest ha hw hlen => ?_,
    fun w rest d0 d1 d2 d3 st ha hw hu hst => ?_, fun w rest d0 d1 d2 d3 ha hw hu => ?_, execBlkRead_waits hs⟩
  · exact (execBlkRead_takes hs ha hw).trans (congrArg _ (afterRead_of_short hlen _))
  · obtain rfl : (unpackReadAnswer w).status = st := congrArg ReadAnswer.status hu
    rw [← hu]
    exact (execBlkRead_takes hs ha hw).trans
      (congrArg _ (afterRead_of_error (congrArg (·.data.length) hu).ge hst _))
  · rw [← hu]
    exact (execBlkRead_takes hs ha hw).trans (congrArg _ (afterRead_of_sample hu _))

/-! ## The start of a query -/

/-- The five query words decode to the queries of their masks (R52). -/
theorem decodeCmd_query {w : CmdWord} (hw : w ∈ [0b0001#4, 0b0010#4, 0b0100#4, 0b0101#4, 0b0111#4]) :
    ∃ i, decodeCmd w = .instr i ∧ queryMask i = some (CmdWord.mask w) := by
  simp only [List.mem_cons, List.not_mem_nil, or_false] at hw
  obtain rfl | rfl | rfl | rfl | rfl := hw
  · exact ⟨.readTempF, by decide, by decide⟩
  · exact ⟨.readTempC, by decide, by decide⟩
  · exact ⟨.readHumid, by decide, by decide⟩
  · exact ⟨.readTempHumid, by decide, by decide⟩
  · exact ⟨.readAll, by decide, by decide⟩

/-- With one caller its word is the one accepted, whatever the free value (R140). -/
theorem step_asked {s : State} {w : CmdWord} {ws : List CmdWord} (hr : s.resetReq = false) (hs : s.seq = .idle)
    (hc : s.callers = [w :: ws]) (hw : w ∈ [0b0001#4, 0b0010#4, 0b0100#4, 0b0101#4, 0b0111#4]) :
    step s = .next (s.asked w ws) := by
  have ho : chooseOffer s.draws (offers s.callers) = some (w, [ws]) := by
    rw [hc]
    rfl
  obtain ⟨i, hi, hm⟩ := decodeCmd_query hw
  simp [step, hr, fetch_of_choice hs ho, decode, hi, exec_query hm, hs, State.asked]

/-! ## A failing answer -/

theorem run_one {s t : State} (h : step s = .next t) : Sys2Proof.core.run 1 s = .next t := run_succ h 0

@[simp] theorem response_trapEntry (s : State) (k : ErrKind) (st : Status) :
    (s.trapEntry k st).response = ⟨k, st, s.pol, 0, none, none, none⟩ := by
  simp [State.response, validField]

/-- A failure is delivered by the step after the one that raises it (R109, R129). -/
theorem run_of_failure {s t : State} {k : ErrKind} {st : Status} (hx : step s = .next (t.trapEntry k st))
    (hr : t.resetReq = false) : Sys2Proof.core.run 2 s = .next (t.trapEntry k st).respond :=
  (run_succ hx 1).trans (run_one (step_resp hr rfl))

/-- A trigger write answered with a non-zero status (R71, R126). -/
theorem run_writeFailure {s : State} {st : Status} {rest : List Status} (hr : s.resetReq = false)
    (hs : s.seq = .trig) (ha : s.awaiting = true) (hw : s.writeAns = st :: rest) (hst : st ≠ 0) :
    Sys2Proof.core.run 2 s = .next ((s.takeWriteAns st rest).trapEntry .writeFail st).respond :=
  run_of_failure (by rw [step_trig hr hs, execTrigWrite_takes hs ha hw, afterWrite_of_ne_zero hst]) hr

/-- A block read whose answer raises ReadFailure (R73). -/
theorem run_readFailure {s : State} {w : ReadWord} {rest : List ReadWord} {st : Status} (hr : s.resetReq = false)
    (hs : s.seq = .read) (ha : s.awaiting = true) (hw : s.readAns = w :: rest)
    (hfail : ∀ t : State, t.afterRead (unpackReadAnswer w) = t.trapEntry .readFail st) :
    Sys2Proof.core.run 2 s = .next ((s.takeReadAns w rest).trapEntry .readFail st).respond :=
  run_of_failure (by rw [step_read hr hs, execBlkRead_takes hs ha hw, hfail]) hr

theorem unpackReadAnswer_status (w : ReadWord) : (unpackReadAnswer w).status = w.extractLsb' 0 32 := rfl

/-- Settles O58: the answer raises the failure in one step, and the response step delivers it. -/
theorem laterFailureDropsEarlierValues : Obligations.LaterFailureDropsEarlierValues := by
  refine fun s hr ha => ⟨fun st ans hs hw hst => ?_, fun w as hs hw hn => ?_, fun w as hs hw hn hst => ?_⟩
  · exact ⟨_, run_writeFailure hr hs ha hw hst, rfl, by simp⟩
  · have hlen : (unpackReadAnswer w).data.length < 4 := (unpackReadAnswer_length w).trans_lt hn
    exact ⟨_, run_readFailure hr hs ha hw (afterRead_of_short hlen), rfl, by simp⟩
  · have hlen : 4 ≤ (unpackReadAnswer w).data.length := ((unpackReadAnswer_length w).trans hn).ge
    exact ⟨_, run_readFailure hr hs ha hw (afterRead_of_error hlen hst), rfl,
      by simp [unpackReadAnswer_status]⟩

/-- Settles O57: acceptance, the trigger write, its failure and the response. -/
theorem failedTriggerEndsTheCommand : Obligations.FailedTriggerEndsTheCommand := by
  intro s w ws st ans hr hs ha hc hw hans hst
  have hissue : step (s.asked w ws) = .next ((s.asked w ws).clearRaw.issue trigRequest) :=
    (step_trig (s := s.asked w ws) hr rfl).trans (execTrigWrite_issues rfl ha)
  have hrun : Sys2Proof.core.run 4 s =
      .next ((((s.asked w ws).clearRaw.issue trigRequest).takeWriteAns st ans).trapEntry .writeFail st).respond := by
    rw [run_succ (step_asked hr hs hc hw), run_succ hissue]
    exact run_writeFailure hr rfl rfl hans hst
  exact ⟨_, hrun, rfl, rfl, by simp [State.asked, trigRequest_eq]⟩

/-! ## A command served by one sample -/

/-- A mask that holds one quantity holds the lowest one and no other (R108). -/
theorem maskHas_of_single {m : QMask} {q : Quantity} (hq : maskLowest m = some q) (hone : maskCount m = 1) :
    maskClear m q = 0 ∧ maskHas m .f = (q == .f) ∧ maskHas m .c = (q == .c) ∧ maskHas m .h = (q == .h) := by
  revert m
  cases q <;> decide

/-- For a single quantity the two policies dispatch alike (R121). -/
theorem dispatchOne_eq_dispatchShared {s : State} {q : Quantity} (r : Reading) (hq : maskLowest s.pend = some q)
    (hone : maskCount s.pend = 1) : s.dispatchOne q r = s.dispatchShared r := by
  obtain ⟨hclear, hf, hc, hh⟩ := maskHas_of_single hq hone
  cases q <;> simp [State.dispatchOne, State.dispatchShared, State.putIfPending, hclear, hf, hc, hh]

/-- The dispatch step where one sample serves the command: under SHARED, and for a single quantity under either
policy (R107, R121). -/
theorem dispatchStep_oneSample {s : State} (hv : s.rawv = true) (h : s.pol = .shared ∨ maskCount s.pend = 1) :
    dispatchStep s = .next (s.dispatchShared (decodeSample s.b)) := by
  cases hp : s.pol with
  | shared => exact dispatchStep_shared hv hp
  | perQuantity =>
    have hone : maskCount s.pend = 1 := h.resolve_left (by simp [hp])
    cases hq : maskLowest s.pend with
    | none => simp [(maskLowest_none_iff _).1 hq, maskCount, maskHas] at hone
    | some q => rw [dispatchStep_perQuantity hv hp hq, dispatchOne_eq_dispatchShared _ hq hone]

/-- An output register is read exactly where it has been written. -/
theorem validField_of_written (b : Bool) (x y : OutWord) :
    validField b (if b then x else y) = if b then some x else none := by
  cases b <;> rfl

/-- The response with the quantities of a mask from one sample (R107, R109). -/
def oneSampleResponse (p : Policy) (m : QMask) (r : Reading) : Response where
  err := .none
  stat := 0
  pol := p
  v := m
  tf := if maskHas m .f then some (sext16 r.tf) else none
  tc := if maskHas m .c then some (sext16 r.tc) else none
  h := if maskHas m .h then some (zext16 r.h) else none

/-- The shared dispatch step from a command that holds no value yet leads to that response (R107). -/
theorem response_dispatchShared {s : State} (r : Reading) (hv : s.valid = 0) (he : s.err = .none)
    (hst : s.stat = 0) : (s.dispatchShared r).response = oneSampleResponse s.pol s.pend r := by
  obtain ⟨hf, hc, hh⟩ := (valid_eq_zero_iff s).1 hv
  rw [State.response, valid_dispatchShared, hv]
  simp [State.dispatchShared, oneSampleResponse, validField_of_written, hf, hc, hh, he, hst]

/-- A quantity is asked for by its bit of the command word (R51). -/
theorem maskHas_mask (w : CmdWord) (q : Quantity) : maskHas (CmdWord.mask w) q = w.getLsbD q.bit := by
  revert w
  cases q <;> decide

/-- Nine steps of a query that one sample serves and whose requests succeed: acceptance, the acquisition, the
dispatch step and the response step (R70, R107, R109). -/
theorem run_oneSampleQuery {s : State} {w : CmdWord} {ws : List CmdWord} {ans : List Status} {d : Nat}
    {a : ReadWord} {as : List ReadWord} {x : RawSample} (h : Inv s) (hr : s.resetReq = false) (hs : s.seq = .idle)
    (hone : s.cfgPolicy = .shared ∨ maskCount (CmdWord.mask w) = 1) (hc : s.callers = [w :: ws])
    (hw : w ∈ [0b0001#4, 0b0010#4, 0b0100#4, 0b0101#4, 0b0111#4])
    (hans : s.writeAns = 0 :: ans) (hd : s.delayAns = d + 1) (hra : s.readAns = a :: as)
    (hu : unpackReadAnswer a = ⟨[x.b0, x.b1, x.b2, x.b3], 0⟩) :
    ∃ t, Sys2Proof.core.run 9 s = .next t ∧ t.seq = .idle ∧ t.callers = [ws] ∧
      t.writeAns = ans ∧ t.delayAns = d ∧ t.readAns = as ∧ t.cfgPolicy = s.cfgPolicy ∧
      t.trace = s.trace ++ (.cmd w :: acquisitionEvents ⟨[x.b0, x.b1, x.b2, x.b3], 0⟩ ++
        [.resp (oneSampleResponse s.cfgPolicy (CmdWord.mask w) (decodeSample x))]) := by
  obtain ⟨-, -, -, -, -, ha⟩ := h.idle_holds_nothing hs
  have hacq := run_acquire (s := s.asked w ws) hr rfl ha hans hd hra hu
  have hdec := (step_dec (s := (s.asked w ws).acquired ans d as x) hr rfl).trans (dispatchStep_oneSample rfl hone)
  have hresp := step_resp (s := ((s.asked w ws).acquired ans d as x).dispatchShared (decodeSample x))
    (by simpa [State.dispatchShared, State.asked] using hr) rfl
  have hresponse := response_dispatchShared (s := (s.asked w ws).acquired ans d as x) (decodeSample x)
    (by simp [State.asked]) rfl rfl
  have hrun := (run_succ (step_asked hr hs hc hw) 8).trans
    ((run_add hacq 2).trans ((run_succ hdec 1).trans (run_one hresp)))
  refine ⟨_, hrun, rfl, ?_⟩
  rw [State.respond_trace, hresponse]
  simp [State.dispatchShared, State.asked]

/-- Settles O55: under SHARED one sample serves every query. -/
theorem sharedQueryRunsToItsResponse : Obligations.SharedQueryRunsToItsResponse := by
  intro s w ws ans a as d x h hr hs hp hc hw hans hd hra hu
  have hrun := run_oneSampleQuery h hr hs (.inl hp) hc hw hans hd hra hu
  simp only [hp, oneSampleResponse, maskHas_mask] at hrun
  exact hrun

/-! ## A command served by one sample for each quantity -/

/-- The start of an acquisition under PER_QUANTITY with the quantities `m` pending (R108). -/
structure PerQuantityStart (m : QMask) (s : State) : Prop where
  resetReq : s.resetReq = false
  seq : s.seq = .trig
  awaiting : s.awaiting = false
  pol : s.pol = .perQuantity
  pend : s.pend = m

theorem perQuantityStart_asked {s : State} (w : CmdWord) (ws : List CmdWord) (hr : s.resetReq = false)
    (ha : s.awaiting = false) (hp : s.cfgPolicy = .perQuantity) :
    PerQuantityStart (CmdWord.mask w) (s.asked w ws) :=
  ⟨hr, rfl, ha, hp, rfl⟩

section
variable {m : QMask} {q : Quantity} {s : State} {ans : List Status} {d : Nat} {a : ReadWord}
  {as : List ReadWord} {x : RawSample}

/-- An acquisition whose requests succeed produces the lowest pending quantity in seven steps, and a further one
starts while a quantity is pending (R70, R108). -/
theorem PerQuantityStart.run_next (h : PerQuantityStart m s) (hq : maskLowest m = some q)
    (hm : maskClear m q ≠ 0) (hw : s.writeAns = 0 :: ans) (hd : s.delayAns = d + 1) (hra : s.readAns = a :: as)
    (hu : unpackReadAnswer a = ⟨[x.b0, x.b1, x.b2, x.b3], 0⟩) :
    Sys2Proof.core.run 7 s = .next ((s.acquired ans d as x).dispatchOne q (decodeSample x)) ∧
      PerQuantityStart (maskClear m q) ((s.acquired ans d as x).dispatchOne q (decodeSample x)) :=
  ⟨run_acquire_dispatchOne h.resetReq h.seq h.awaiting h.pol (h.pend ▸ hq) hw hd hra hu,
    { resetReq := by simp [State.dispatchOne, h.resetReq]
      seq := by simpa [State.dispatchOne, h.pend] using hm
      awaiting := by simp [State.dispatchOne]
      pol := by simp [State.dispatchOne, h.pol]
      pend := by simp [State.dispatchOne, h.pend] }⟩

/-- The response step follows the acquisition of the last quantity (R108, R109). -/
theorem PerQuantityStart.run_last (h : PerQuantityStart m s) (hq : maskLowest m = some q)
    (hm : maskClear m q = 0) (hw : s.writeAns = 0 :: ans) (hd : s.delayAns = d + 1) (hra : s.readAns = a :: as)
    (hu : unpackReadAnswer a = ⟨[x.b0, x.b1, x.b2, x.b3], 0⟩) :
    Sys2Proof.core.run 8 s = .next ((s.acquired ans d as x).dispatchOne q (decodeSample x)).respond := by
  have hresp : step ((s.acquired ans d as x).dispatchOne q (decodeSample x)) =
      .next ((s.acquired ans d as x).dispatchOne q (decodeSample x)).respond :=
    step_resp (by simp [State.dispatchOne, h.resetReq]) (by simp [State.dispatchOne, h.pend, hm])
  exact (run_add (run_acquire_dispatchOne h.resetReq h.seq h.awaiting h.pol (h.pend ▸ hq) hw hd hra hu) 1).trans
    (run_one hresp)

end

/-- Settles O56: three acquisitions produce °F, °C and %RH in this order, each from its own sample, and the third
leaves nothing pending. -/
theorem perQuantityReadAllRunsToItsResponse : Obligations.PerQuantityReadAllRunsToItsResponse := by
  intro s ws ans a1 a2 a3 as d x y z h hr hs hp hc hw hd hra hux huy huz
  obtain ⟨-, -, -, -, -, ha⟩ := h.idle_holds_nothing hs
  have hstart := perQuantityStart_asked 0b0111 ws hr ha hp
  obtain ⟨hrunF, hstart⟩ := hstart.run_next (q := .f) (by decide) (by decide) hw hd hra hux
  obtain ⟨hrunC, hstart⟩ := hstart.run_next (q := .c) (by decide) (by decide) rfl rfl rfl huy
  have hrunH := hstart.run_last (q := .h) (by decide) (by decide) rfl rfl rfl huz
  have hrun := (run_succ (step_asked hr hs hc (by decide)) 22).trans
    ((run_add hrunF 15).trans ((run_add hrunC 8).trans hrunH))
  refine ⟨_, hrun, rfl, rfl, rfl, rfl, rfl, ?_⟩
  simp [State.response, State.dispatchOne, State.asked, hp, acquisitionEvents, trigRequest_eq, waitRequest_eq,
    readRequest_eq, validField, sext16, zext16, Quantity.bit]

/-- Settles O60: a single quantity is served by one sample as under SHARED; `read_temp_humid` produces °F from its
first sample and %RH from its second. -/
theorem perQuantityQueryRunsToItsResponse : Obligations.PerQuantityQueryRunsToItsResponse := by
  refine fun s ws ans as d x y h hr hs hp => ⟨fun w a hw hc hans hd hra hu => ?_,
    fun a1 a2 hc hw hd hra hux huy => ?_⟩
  · have hone : ∀ w ∈ [0b0001#4, 0b0010#4, 0b0100#4], maskCount (CmdWord.mask w) = 1 ∧
        w ∈ [0b0001#4, 0b0010#4, 0b0100#4, 0b0101#4, 0b0111#4] := by decide
    obtain ⟨hone, hquery⟩ := hone w hw
    have hrun := run_oneSampleQuery h hr hs (.inr hone) hc hquery hans hd hra hu
    simp only [hp, oneSampleResponse, maskHas_mask] at hrun
    exact hrun
  · obtain ⟨-, -, -, -, -, ha⟩ := h.idle_holds_nothing hs
    have hstart := perQuantityStart_asked 0b0101 ws hr ha hp
    obtain ⟨hrunF, hstart⟩ := hstart.run_next (q := .f) (by decide) (by decide) hw hd hra hux
    have hrunH := hstart.run_last (q := .h) (by decide) (by decide) rfl rfl rfl huy
    have hrun := (run_succ (step_asked hr hs hc (by decide)) 15).trans ((run_add hrunF 8).trans hrunH)
    refine ⟨_, hrun, rfl, rfl, rfl, rfl, rfl, hp, ?_⟩
    simp [State.response, State.dispatchOne, State.asked, hp, acquisitionEvents, trigRequest_eq, waitRequest_eq,
      readRequest_eq, validField, sext16, zext16, Quantity.bit]

end Sys2Proof.Proofs

/-! Proofs of the statements of spec/41_decode.md: the raw fields, the conversions, and the bits of a sample
the decoder reads. -/

namespace Sys2Proof.Proofs

open Sys2Proof.Machine

/-! ## The raw fields (R86, R87) -/

/-- The mask 0x3F keeps b0[5:0]. -/
theorem and_mask_eq_extractLsb' (b0 : Byte) : b0.toNat &&& 0x3F = (b0.extractLsb' 0 6).toNat := by
  rw [BitVec.extractLsb'_toNat, Nat.shiftRight_zero]
  exact Nat.and_two_pow_sub_one_eq_mod b0.toNat 6

/-- The mask 0xFC followed by the shift keeps b3[7:2]. -/
theorem and_mask_div_eq_extractLsb' (b3 : Byte) : (b3.toNat &&& 0xFC) / 4 = (b3.extractLsb' 2 6).toNat :=
  calc (b3.toNat &&& 0xFC) / 4 = (b3.toNat &&& 0xFC) >>> 2 := (Nat.shiftRight_eq_div_pow _ 2).symm
    _ = b3.toNat >>> 2 &&& 2 ^ 6 - 1 := Nat.shiftRight_and_distrib
    _ = b3.toNat >>> 2 % 2 ^ 6 := Nat.and_two_pow_sub_one_eq_mod _ 6
    _ = (b3.extractLsb' 2 6).toNat := (BitVec.extractLsb'_toNat 2 6 b3).symm

/-- R86: {b0[5:0], b1[7:0]}. -/
theorem unpackH_eq_append (b0 b1 : Byte) : unpackH b0 b1 = (b0.extractLsb' 0 6 ++ b1).toNat := by
  rw [unpackH, and_mask_eq_extractLsb', BitVec.toNat_append]

/-- R87: {b2[7:0], b3[7:2]}. The masked low byte does not reach the bits of the high one, so the addition is an
OR. -/
theorem unpackT_eq_append (b2 b3 : Byte) : unpackT b2 b3 = (b2 ++ b3.extractLsb' 2 6).toNat := by
  have hhi : b2.toNat &&& 0xFF = b2.toNat := Nat.and_two_pow_sub_one_of_lt_two_pow b2.isLt
  have hlo := and_mask_div_eq_extractLsb' b3
  rw [BitVec.toNat_append, ← Nat.shiftLeft_add_eq_or_of_lt (b3.extractLsb' 2 6).isLt]
  simp only [unpackT, hhi, Nat.shiftLeft_eq, Nat.shiftRight_eq_div_pow]
  omega

/-- Settles O25: each field is the concatenation of its slices, the masks dropping the discarded bits. -/
theorem fieldsAreTheirBitSlices : Obligations.FieldsAreTheirBitSlices :=
  ⟨unpackH_eq_append, unpackT_eq_append⟩

/-! ## The conversions (R88 to R90) -/

theorem convH_eq_div (n : Nat) : convH n = n * 1000 / 16384 :=
  Nat.shiftRight_eq_div_pow _ 14

theorem convC_eq_div (n : Nat) : convC n = (n * 1650 / 16384 : Nat) - 400 := by
  rw [convC, Nat.shiftRight_eq_div_pow]

/-- R90 for a Celsius value that is not negative. -/
theorem convF_natCast (n : Nat) : convF n = (n * 18 / 10 : Nat) + 320 := by
  rw [convF, Int.ofNat_tdiv]
  push_cast
  rfl

/-- R90 for a Celsius value that is not positive: the quotient is that of the opposite value, negated. -/
theorem convF_neg_natCast (n : Nat) : convF (-n) = -(n * 18 / 10 : Nat) + 320 := by
  rw [convF, Int.neg_mul, Int.neg_tdiv, Int.ofNat_tdiv]
  push_cast
  rfl

/-- Settles O26: the shifts are floor divisions, and truncation toward zero divides the absolute value. -/
theorem conversionsTruncate : Obligations.ConversionsTruncate :=
  ⟨convH_eq_div, convC_eq_div, convF_natCast, convF_neg_natCast, fun _ _ _ _ => rfl⟩

/-! ## Ranges and monotonicity (R96) -/

theorem convH_mono {m n : Nat} (h : m ≤ n) : convH m ≤ convH n := by
  rw [convH_eq_div, convH_eq_div]
  exact Nat.div_le_div_right (Nat.mul_le_mul_right 1000 h)

theorem convC_mono {m n : Nat} (h : m ≤ n) : convC m ≤ convC n := by
  have hdiv : m * 1650 / 16384 ≤ n * 1650 / 16384 := Nat.div_le_div_right (Nat.mul_le_mul_right 1650 h)
  rw [convC_eq_div, convC_eq_div]
  omega

theorem convF_mono {c d : Int} (h : c ≤ d) : convF c ≤ convF d := by
  have hdiv : (c * 18).tdiv 10 ≤ (d * 18).tdiv 10 := Int.tdiv_le_tdiv (by decide) (by omega)
  exact Int.add_le_add_right hdiv 320

/-- Settles O27: the ranges follow from those of the raw fields, and a value in its range fits its output
register. -/
theorem decoderRangesAndMonotonicity : Obligations.DecoderRangesAndMonotonicity := by
  refine ⟨fun b0 b1 => ⟨unpackH_le b0 b1, unpackT_le b0 b1⟩, fun s => ?_, by decide, by decide, by decide,
    by decide, by decide, by decide, fun m n h => ⟨convH_mono h, convC_mono h, convF_mono (convC_mono h)⟩⟩
  have hh := convH_le (unpackH_le s.b0 s.b1)
  have ⟨hclo, hchi⟩ := convC_range (unpackT_le s.b2 s.b3)
  have ⟨hflo, hfhi⟩ := convF_range hclo hchi
  exact ⟨hh, hclo, hchi, hflo, hfhi, sext16_toInt hflo hfhi, sext16_toInt hclo (hchi.trans (by decide)),
    zext16_toNat hh⟩

/-! ## The discarded bits (R92) -/

/-- The humidity field reads b0[5:0] and b1 only. -/
theorem unpackH_congr {b0 b0' : Byte} (h : b0.extractLsb' 0 6 = b0'.extractLsb' 0 6) (b1 : Byte) :
    unpackH b0 b1 = unpackH b0' b1 := by
  rw [unpackH_eq_append, unpackH_eq_append, h]

/-- The temperature field reads b2 and b3[7:2] only. -/
theorem unpackT_congr (b2 : Byte) {b3 b3' : Byte} (h : b3.extractLsb' 2 6 = b3'.extractLsb' 2 6) :
    unpackT b2 b3 = unpackT b2 b3' := by
  rw [unpackT_eq_append, unpackT_eq_append, h]

/-- Settles O28: the decoder reads a sample through its two fields, and these read their slices only. -/
theorem discardedBitsNeverMatter : Obligations.DiscardedBitsNeverMatter := by
  refine ⟨fun b0 b1 b2 b3 x y => ?_, fun s t h0 h1 => ?_, fun s t h2 h3 => ?_⟩
  · have hh : unpackH (x ++ b0.extractLsb' 0 6) b1 = unpackH b0 b1 :=
      unpackH_congr BitVec.extractLsb'_append_eq_right b1
    have ht : unpackT b2 (b3.extractLsb' 2 6 ++ y) = unpackT b2 b3 :=
      unpackT_congr b2 BitVec.extractLsb'_append_eq_left
    simp only [decodeSample, hh, ht]
  · simp only [decodeSample, h1, unpackH_congr h0]
  · have ht : unpackT s.b2 s.b3 = unpackT t.b2 t.b3 := h2 ▸ unpackT_congr s.b2 h3
    simp only [decodeSample, ht, and_self]

end Sys2Proof.Proofs

/-! Proofs of the statements of spec/42_dispatch.md: acceptance, the host commands, the dispatch and response
steps, the table of phases, and the end of a command. -/

namespace Sys2Proof.Proofs

open Sys2Proof.Machine Sys2Proof.Safety

/-! ## Acceptance and the host commands -/

/-- No caller holds a word exactly if the port has none to offer (R140). -/
theorem offers_eq_nil_iff (cs : List (List CmdWord)) : offers cs = [] ↔ ∀ l ∈ cs, l = [] := by
  induction cs with
  | nil => simp [offers]
  | cons c cs ih =>
    cases c with
    | nil => simpa [offers] using ih
    | cons w ws => simp [offers]

theorem fetch_eq_nothing_iff {s : State} (hs : s.seq = .idle) :
    s.fetch = .nothing ↔ chooseOffer s.draws (offers s.callers) = none := by
  cases ho : chooseOffer s.draws (offers s.callers) with
  | none => simp [State.fetch, hs, ho]
  | some o => simp [fetch_of_choice (w := o.1) (rest := o.2) hs ho]

/-- Settles O4: whatever the free value, a word is chosen if one is on offer. -/
theorem idleBlockAcceptsIfAWordIsHeld : Obligations.IdleBlockAcceptsIfAWordIsHeld := fun _ hs =>
  (fetch_eq_nothing_iff hs).trans ((chooseOffer_none_iff _ _).trans (offers_eq_nil_iff _))

/-- Settles O2: the one word on offer is chosen, whatever the free value. -/
theorem acceptanceTakesTheHeldWord : Obligations.AcceptanceTakesTheHeldWord := by
  intro s w ws hs hc
  have ho : chooseOffer s.draws (offers s.callers) = some (w, [ws]) := by
    rw [hc]
    rfl
  exact fetch_of_choice hs ho

/-- A word handed on in IDLE is a command word, with the state after its acceptance (R105). -/
theorem fetch_idle_code {s s' : State} {c : Code} (hs : s.seq = .idle) (hf : s.fetch = .code c s') :
    ∃ w rest, c = .cmd w ∧ s' = s.accept w rest := by
  cases ho : chooseOffer s.draws (offers s.callers) with
  | none => simp [State.fetch, hs, ho] at hf
  | some o =>
    rw [fetch_of_choice (w := o.1) (rest := o.2) hs ho] at hf
    cases hf
    exact ⟨o.1, o.2, rfl, rfl⟩

/-- Settles O11: each of the five queries starts with its mask. -/
theorem queryLatchesItsMaskAndStarts : Obligations.QueryLatchesItsMaskAndStarts := by
  intro i m s hi hs
  have hmask : ∀ p ∈ [(Instr.readTempF, 0b001#3), (Instr.readTempC, 0b010#3), (Instr.readHumid, 0b100#3),
      (Instr.readTempHumid, 0b101#3), (Instr.readAll, 0b111#3)], queryMask p.1 = some p.2 := by decide
  exact exec_query (hmask (i, m) hi) s hs

/-- Settles O12: the word of each policy, and the effect of `set_policy` in IDLE. -/
theorem setPolicyConfiguresAndAnswers : Obligations.SetPolicyConfiguresAndAnswers := by
  refine fun p => ⟨by cases p <;> decide, fun s hs => ?_⟩
  have hidle : ¬ s.busy = true := by simp [State.busy, hs]
  exact if_neg hidle

/-- Settles O15: the decoder rejects the word, and the rejection answers with the configured policy, which
acceptance leaves as it is. -/
theorem reservedWordIsAnsweredAndChangesNothing : Obligations.ReservedWordIsAnsweredAndChangesNothing := by
  intro s s' w hr hs hf hw
  obtain ⟨_, rest, -, rfl⟩ := fetch_idle_code hs hf
  exact step_of_reject hr hf ((reservedCommandWordsAreRejected w).1 hw)

/-! ## The dispatch step and the response step -/

/-- Settles O23: in RESP the step is the response step. -/
theorem responseStepDeliversAndClears : Obligations.ResponseStepDeliversAndClears :=
  fun _ hr hs => step_resp hr hs

/-- At a response without error the values held are those the command asked for (R109, R117). -/
theorem valid_eq_cmdr_of_response {s : State} (h : Inv s) (hs : s.seq = .resp) (he : s.err = .none) :
    s.valid = s.cmdr := by
  have hp : s.pend = 0 := by simpa [hs, working] using h.pending_while_working
  obtain ⟨hunion, -⟩ := h.quantities_split (by simp [hs]) he
  simpa [hp] using hunion.symm

/-- Settles O21: each of the three conditional writes sets its register and flag; the invariant, which the step
keeps, says what the valid bits are at the response. -/
theorem sharedDispatchDeliversEveryRequestedValue : Obligations.SharedDispatchDeliversEveryRequestedValue := by
  refine ⟨fun s hr hs hp hv => ?_, fun s t h hr hs hp hx => ?_⟩
  · rw [step_dec hr hs, dispatchStep_shared hv hp]
    refine congrArg Host.Outcome.next (?_ : (_ : State) = _)
    ext1 <;> simp [State.dispatchShared, maskHas, Quantity.bit, sext16, zext16]
  · have ht : Inv t := step_inv h hx
    obtain ⟨he, -⟩ := err_none_of_ne_resp h (by simp [hs])
    rw [step_dec hr hs, dispatchStep_shared (h.sample_in_dec.2 hs) hp] at hx
    cases hx
    exact valid_eq_cmdr_of_response ht rfl (by simpa [State.dispatchShared] using he)

/-! The lowest pending quantity, and the mask without it, bit by bit (R108). -/

theorem maskLowest_of_f {m : QMask} (hf : m.getLsbD 0 = true) : maskLowest m = some .f := if_pos hf

theorem maskLowest_of_c {m : QMask} (hf : m.getLsbD 0 = false) (hc : m.getLsbD 1 = true) :
    maskLowest m = some .c := (if_neg (Bool.eq_false_iff.1 hf)).trans (if_pos hc)

theorem maskClear_f (m : QMask) : maskClear m .f = m &&& 0b110 := rfl
theorem maskClear_c (m : QMask) : maskClear m .c = m &&& 0b101 := rfl

/-- Settles O22: F before C before H; with H the lowest, nothing is left pending. -/
theorem perQuantityDispatchDeliversTheLowest : Obligations.PerQuantityDispatchDeliversTheLowest := by
  intro s hr hs hp hv
  have hx {q : Quantity} (hq : maskLowest s.pend = some q) :
      step s = .next (s.dispatchOne q (decodeSample s.b)) :=
    (step_dec hr hs).trans (dispatchStep_perQuantity hv hp hq)
  refine ⟨fun hf => ?_, fun hf hc => ?_, fun hm => ?_⟩
  · rw [hx (maskLowest_of_f hf), State.dispatchOne, maskClear_f]
    rfl
  · rw [hx (maskLowest_of_c hf hc), State.dispatchOne, maskClear_c]
    rfl
  · rw [hx (q := .h) (by rw [hm]; decide), State.dispatchOne, hm]
    rfl

/-- Settles O43: the count of the registers at the response, and the values held there. -/
theorem successfulQueryPerformsItsAcquisitions : Obligations.SuccessfulQueryPerformsItsAcquisitions := by
  intro s hreach hs he
  obtain ⟨h, -, -, -, hcount, -⟩ := reachableStatesMeetTheInvariants s hreach
  have hv := valid_eq_cmdr_of_response h hs he
  exact ⟨hv ▸ hcount hs he, hv⟩

/-! ## The table of phases -/

/-- A word that decodes to a query is one of the five of R52. -/
theorem mem_queryWords {w : CmdWord} {i : Instr} {m : QMask} (hi : decodeCmd w = .instr i)
    (hm : queryMask i = some m) : w ∈ [0b0001#4, 0b0010#4, 0b0100#4, 0b0101#4, 0b0111#4] := by
  have hw := encode_of_decodeCmd hi
  cases i <;> simp only [queryMask, reduceCtorEq] at hm <;> cases hw <;> decide

/-- A word that decodes to no query is none of the five of R52. -/
theorem not_mem_queryWords {w : CmdWord} (hw : ∀ i, decodeCmd w = .instr i → queryMask i = none) :
    w ∉ [0b0001#4, 0b0010#4, 0b0100#4, 0b0101#4, 0b0111#4] := fun hmem => by
  obtain ⟨i, hi, hm⟩ := decodeCmd_query hmem
  simp [hw i hi] at hm

theorem tabulatedNext_idle {s : State} (hs : s.seq = .idle) (hf : s.fetch = .nothing) :
    tabulatedNext s = .idle := by
  simp [tabulatedNext, hs, hf]

theorem tabulatedNext_accepted {s s' : State} {w : CmdWord} (hs : s.seq = .idle)
    (hf : s.fetch = .code (.cmd w) s') : tabulatedNext s =
      if w ∈ [0b0001#4, 0b0010#4, 0b0100#4, 0b0101#4, 0b0111#4] then .trig else .idle := by
  simp only [tabulatedNext, hs, hf]

theorem step_idle_seq {s t : State} (hr : s.resetReq = false) (hs : s.seq = .idle) (hx : step s = .next t) :
    t.seq = tabulatedNext s := by
  obtain ⟨ho, hk⟩ | ⟨w, rest, ho, ⟨i, hi, hm, hk⟩ | ⟨p, hp, hk⟩ | ⟨hrj, hk⟩⟩ := step_idle hr hs <;>
    rw [hk] at hx <;> cases hx
  · rw [tabulatedNext_idle hs ((fetch_eq_nothing_iff hs).2 ho), hs]
  · rw [tabulatedNext_accepted hs (fetch_of_choice hs ho), if_pos (mem_queryWords hi hm)]
    rfl
  · rw [tabulatedNext_accepted hs (fetch_of_choice hs ho), if_neg (not_mem_queryWords (by simp [hp, queryMask]))]
    exact hs
  · rw [tabulatedNext_accepted hs (fetch_of_choice hs ho), if_neg (not_mem_queryWords (by simp [hrj]))]
    exact hs

theorem execTrigWrite_seq {s t : State} (hx : execTrigWrite s = .next t) : t.seq = tabulatedNext s := by
  obtain ⟨hs, hcases⟩ := execTrigWrite_next hx
  obtain ⟨ha, rfl⟩ | ⟨ha, hw, rfl⟩ | ⟨st, rest, ha, hw, ⟨hst, rfl⟩ | ⟨hst, rfl⟩⟩ := hcases
  · simp [tabulatedNext, State.clearRaw, hs, ha]
  · simp [tabulatedNext, hs, ha, hw]
  · simp [tabulatedNext, hs, ha, hw, hst]
  · simpa [tabulatedNext, hs, ha, hw] using hst

theorem execWait40_seq {s t : State} (hx : execWait40 s = .next t) : t.seq = tabulatedNext s := by
  obtain ⟨hs, ⟨ha, rfl⟩ | ⟨ha, hd, rfl⟩ | ⟨n, ha, hd, rfl⟩⟩ := execWait40_next hx
  · simp [tabulatedNext, hs, ha]
  · simp [tabulatedNext, hs, ha, hd]
  · simp [tabulatedNext, hs, ha, hd]

theorem execBlkRead_seq {s t : State} (hx : execBlkRead s = .next t) : t.seq = tabulatedNext s := by
  obtain ⟨hs, ⟨ha, rfl⟩ | ⟨ha, hw, rfl⟩ | ⟨w, rest, ha, hw, rfl⟩⟩ := execBlkRead_next hx
  · simp [tabulatedNext, hs, ha]
  · simp [tabulatedNext, hs, ha, hw]
  · have htab : tabulatedNext s = if 4 ≤ readCount w ∧ w.extractLsb' 0 32 = 0 then .dec else .resp := by
      simp [tabulatedNext, hs, ha, hw]
    rw [htab, ← unpackReadAnswer_length, ← unpackReadAnswer_status]
    obtain ⟨hlen, heq⟩ | ⟨-, hst, heq⟩ | ⟨d0, d1, d2, d3, l, hdata, hst, heq⟩ :=
      afterRead_cases (unpackReadAnswer w) (s.takeReadAns w rest) <;> rw [heq]
    · rw [if_neg (by omega)]
      rfl
    · rw [if_neg fun hok => hst hok.2]
      rfl
    · rw [if_pos ⟨by simp [hdata], hst⟩]
      rfl

/-- A further quantity is pending beside the lowest exactly if more than one is. -/
theorem maskClear_eq_zero_iff {m : QMask} {q : Quantity} (hq : maskHas m q = true) :
    maskClear m q = 0 ↔ ¬ 1 < maskCount m := by
  rw [← maskCount_eq_zero_iff, ← maskCount_clear hq]
  omega

theorem dispatchStep_seq {s t : State} (hs : s.seq = .dec) (hx : dispatchStep s = .next t) :
    t.seq = tabulatedNext s := by
  obtain ⟨-, ⟨hp, rfl⟩ | ⟨q, hp, hq, rfl⟩⟩ := dispatchStep_next hx
  · simp [tabulatedNext, State.dispatchShared, hs, hp]
  · have htab : tabulatedNext s = if 1 < maskCount s.pend then .trig else .resp := by
      simp [tabulatedNext, hs, hp]
    exact (if_congr (maskClear_eq_zero_iff (maskLowest_some hq).1) rfl rfl).trans ((ite_not ..).trans htab.symm)

/-- Settles O46, phase by phase. -/
theorem phaseChangesAsTabulated : Obligations.PhaseChangesAsTabulated := by
  intro s t hr hx
  cases hs : s.seq with
  | idle => exact step_idle_seq hr hs hx
  | trig => exact execTrigWrite_seq ((step_trig hr hs).symm.trans hx)
  | wait => exact execWait40_seq ((step_wait hr hs).symm.trans hx)
  | read => exact execBlkRead_seq ((step_read hr hs).symm.trans hx)
  | dec => exact dispatchStep_seq hs ((step_dec hr hs).symm.trans hx)
  | resp =>
    cases (step_resp hr hs).symm.trans hx
    simp [tabulatedNext, hs]

/-! ## The two policies -/

/-! No micro-operation reads POL (R121). -/

theorem afterWrite_underPolicy (p : Policy) (st : Status) (s : State) :
    (underPolicy p s).afterWrite st = underPolicy p (s.afterWrite st) := by
  by_cases hst : st = 0
  · subst hst
    rfl
  · simp only [afterWrite_of_ne_zero hst]
    rfl

theorem execTrigWrite_underPolicy (p : Policy) {s : State} (hs : s.seq = .trig) :
    execTrigWrite (underPolicy p s) = mapNext (underPolicy p) (execTrigWrite s) := by
  cases ha : s.awaiting with
  | false => rw [execTrigWrite_issues hs ha, execTrigWrite_issues (s := underPolicy p s) hs ha]; rfl
  | true =>
    cases hw : s.writeAns with
    | nil => rw [execTrigWrite_waits hs ha hw, execTrigWrite_waits (s := underPolicy p s) hs ha hw]; rfl
    | cons st rest =>
      rw [execTrigWrite_takes hs ha hw, execTrigWrite_takes (s := underPolicy p s) hs ha hw]
      exact congrArg Host.Outcome.next (afterWrite_underPolicy p st (s.takeWriteAns st rest))

theorem execWait40_underPolicy (p : Policy) {s : State} (hs : s.seq = .wait) :
    execWait40 (underPolicy p s) = mapNext (underPolicy p) (execWait40 s) := by
  cases ha : s.awaiting with
  | false => rw [execWait40_issues hs ha, execWait40_issues (s := underPolicy p s) hs ha]; rfl
  | true =>
    cases hd : s.delayAns with
    | zero => rw [execWait40_waits hs ha hd, execWait40_waits (s := underPolicy p s) hs ha hd]; rfl
    | succ n => rw [execWait40_takes hs ha hd, execWait40_takes (s := underPolicy p s) hs ha hd]; rfl

theorem afterRead_underPolicy (p : Policy) (a : ReadAnswer) (s : State) :
    (underPolicy p s).afterRead a = underPolicy p (s.afterRead a) := by
  obtain ⟨hlen, heq⟩ | ⟨hlen, hst, heq⟩ | ⟨d0, d1, d2, d3, l, hdata, hst, heq⟩ := afterRead_cases a s
  · rw [heq, afterRead_of_short hlen]
    rfl
  · rw [heq, afterRead_of_error hlen hst]
    rfl
  · rw [heq, State.afterRead, hdata]
    exact if_neg (not_not.2 hst)

theorem execBlkRead_underPolicy (p : Policy) {s : State} (hs : s.seq = .read) :
    execBlkRead (underPolicy p s) = mapNext (underPolicy p) (execBlkRead s) := by
  cases ha : s.awaiting with
  | false => rw [execBlkRead_issues hs ha, execBlkRead_issues (s := underPolicy p s) hs ha]; rfl
  | true =>
    cases hw : s.readAns with
    | nil => rw [execBlkRead_waits hs ha hw, execBlkRead_waits (s := underPolicy p s) hs ha hw]; rfl
    | cons w rest =>
      rw [execBlkRead_takes hs ha hw, execBlkRead_takes (s := underPolicy p s) hs ha hw]
      exact congrArg Host.Outcome.next (afterRead_underPolicy p (unpackReadAnswer w) (s.takeReadAns w rest))

theorem putIfPending_underPolicy (p : Policy) (q : Quantity) (r : Reading) (s : State) :
    (underPolicy p s).putIfPending q r = underPolicy p (s.putIfPending q r) := by
  cases hq : maskHas s.pend q with
  | false => simp [State.putIfPending, underPolicy, hq]
  | true => cases q <;> simp [State.putIfPending, State.putOut, underPolicy, hq]

theorem dispatchShared_underPolicy (p : Policy) (r : Reading) (s : State) :
    (underPolicy p s).dispatchShared r = underPolicy p (s.dispatchShared r) := by
  simp only [State.dispatchShared, putIfPending_underPolicy]
  rfl

/-- With one quantity pending, one sample serves the command under either policy (R121). -/
theorem dispatchStep_underShared {s : State} (hone : maskCount s.pend = 1) :
    dispatchStep (underPolicy .shared s) = mapNext (underPolicy .shared) (dispatchStep s) := by
  cases hv : s.rawv with
  | false =>
    rw [dispatchStep_of_no_sample hv, dispatchStep_of_no_sample (s := underPolicy .shared s) hv]
    rfl
  | true =>
    rw [dispatchStep_oneSample hv (.inr hone), dispatchStep_oneSample (s := underPolicy .shared s) hv (.inl rfl)]
    exact congrArg Host.Outcome.next (dispatchShared_underPolicy .shared (decodeSample s.b) s)

/-- Outside IDLE and RESP, with one quantity pending in DEC, a step commutes with latching SHARED (R121). -/
theorem step_underShared {s : State} (hi : s.seq ≠ .idle) (hone : s.seq = .dec → maskCount s.pend = 1)
    (hresp : s.seq ≠ .resp) :
    step (underPolicy .shared s) = mapNext (underPolicy .shared) (step s) := by
  cases hr : s.resetReq with
  | true => rw [step_reset hr, step_reset (s := underPolicy .shared s) hr]; rfl
  | false =>
    cases hs : s.seq with
    | idle => exact absurd hs hi
    | trig =>
      rw [step_trig hr hs, step_trig (s := underPolicy .shared s) hr hs, execTrigWrite_underPolicy .shared hs]
    | wait =>
      rw [step_wait hr hs, step_wait (s := underPolicy .shared s) hr hs, execWait40_underPolicy .shared hs]
    | read =>
      rw [step_read hr hs, step_read (s := underPolicy .shared s) hr hs, execBlkRead_underPolicy .shared hs]
    | dec =>
      rw [step_dec hr hs, step_dec (s := underPolicy .shared s) hr hs, dispatchStep_underShared (hone hs)]
    | resp => exact absurd hs hresp

/-- Settles O54: latching SHARED over PER_QUANTITY commutes with the step, and a response copies POL. -/
theorem singleQuantityIgnoresThePolicy : Obligations.SingleQuantityIgnoresThePolicy := fun s hi hone =>
  ⟨fun hresp => (step_underShared (s := underPolicy .perQuantity s) hi hone hresp).symm, fun _ => rfl⟩

/-! ## A command whose requests are answered -/

/-- How many more steps a command takes at most if every request is answered: two for each of the three requests
of an acquisition and one for its dispatch, for each pending quantity, and one for the response (R120, log
entry 5). -/
def stepsLeft (s : State) : Nat :=
  match s.seq, s.awaiting with
  | .idle, _ => 0
  | .trig, false => 7 * maskCount s.pend + 1
  | .trig, true => 7 * maskCount s.pend
  | .wait, false => 7 * maskCount s.pend - 1
  | .wait, true => 7 * maskCount s.pend - 2
  | .read, false => 7 * maskCount s.pend - 3
  | .read, true => 7 * maskCount s.pend - 4
  | .dec, _ => 7 * maskCount s.pend - 5
  | .resp, _ => 1

/-- Reset is not asserted, and each port holds an answer for every acquisition of the command, at most one for
each pending quantity, that has not taken one (R31, R32, R135). -/
structure Served (s : State) : Prop where
  resetReq : s.resetReq = false
  writes : (if s.seq = .trig then maskCount s.pend else maskCount s.pend - 1) ≤ s.writeAns.length
  delays : (if s.seq = .trig ∨ s.seq = .wait then maskCount s.pend else maskCount s.pend - 1) ≤ s.delayAns
  reads : (if s.seq = .dec then maskCount s.pend - 1 else maskCount s.pend) ≤ s.readAns.length

/-- `t` is nearer to the end of the command than `s`, and its requests will be answered too. -/
structure Nearer (s t : State) : Prop where
  served : Served t
  fewer : stepsLeft t < stepsLeft s

theorem maskCount_pend_pos {s : State} (h : Inv s) (hs : working s.seq = true) : 0 < maskCount s.pend :=
  Nat.pos_of_ne_zero (mt (maskCount_eq_zero_iff _).1 (h.pending_while_working.2 hs))

/-- With nothing pending no answer is needed. -/
theorem served_of_nothing_pending {s : State} (hr : s.resetReq = false) (hp : s.pend = 0) : Served s := by
  have hnone : maskCount s.pend = 0 := (maskCount_eq_zero_iff _).2 hp
  constructor <;> simp [hr, hnone]

/-- A failure leaves the response step alone to come. -/
theorem nearer_trapEntry {s u : State} {k : ErrKind} {st : Status} (hr : u.resetReq = false)
    (hs : 1 < stepsLeft s) : Nearer s (u.trapEntry k st) :=
  ⟨served_of_nothing_pending hr rfl, hs⟩

theorem execTrigWrite_nearer {s t : State} (h : Inv s) (hv : Served s) (hx : execTrigWrite s = .next t) :
    Nearer s t := by
  obtain ⟨hs, hcases⟩ := execTrigWrite_next hx
  have hpos := maskCount_pend_pos h (by simp [hs, working])
  obtain ⟨ha, rfl⟩ | ⟨-, hw, -⟩ | ⟨st, rest, ha, hw, ⟨-, rfl⟩ | ⟨-, rfl⟩⟩ := hcases
  · exact ⟨⟨hv.resetReq, hv.writes, hv.delays, hv.reads⟩, by simp [stepsLeft, hs, ha, State.clearRaw]⟩
  · have hnone : maskCount s.pend = 0 := by simpa [hs, hw] using hv.writes
    omega
  · exact ⟨⟨hv.resetReq, by simpa [hs, hw] using hv.writes, by simpa [hs] using hv.delays,
      by simpa [hs] using hv.reads⟩, by simp [stepsLeft, hs, ha, hpos]⟩
  · exact nearer_trapEntry hv.resetReq (by simp [stepsLeft, hs, ha]; omega)

theorem execWait40_nearer {s t : State} (h : Inv s) (hv : Served s) (hx : execWait40 s = .next t) :
    Nearer s t := by
  obtain ⟨hs, hcases⟩ := execWait40_next hx
  have hpos := maskCount_pend_pos h (by simp [hs, working])
  obtain ⟨ha, rfl⟩ | ⟨-, hd, -⟩ | ⟨n, ha, hd, rfl⟩ := hcases
  · exact ⟨⟨hv.resetReq, hv.writes, hv.delays, hv.reads⟩, by simp [stepsLeft, hs, ha]; omega⟩
  · have hnone : maskCount s.pend = 0 := by simpa [hs, hd] using hv.delays
    omega
  · exact ⟨⟨hv.resetReq, by simpa [hs] using hv.writes, by simpa [hs, hd] using hv.delays,
      by simpa [hs] using hv.reads⟩, by simp [stepsLeft, hs, ha]; omega⟩

theorem execBlkRead_nearer {s t : State} (h : Inv s) (hv : Served s) (hx : execBlkRead s = .next t) :
    Nearer s t := by
  obtain ⟨hs, hcases⟩ := execBlkRead_next hx
  have hpos := maskCount_pend_pos h (by simp [hs, working])
  obtain ⟨ha, rfl⟩ | ⟨-, hw, -⟩ | ⟨w, rest, ha, hw, rfl⟩ := hcases
  · exact ⟨⟨hv.resetReq, hv.writes, hv.delays, hv.reads⟩, by simp [stepsLeft, hs, ha]; omega⟩
  · have hnone : maskCount s.pend = 0 := by simpa [hs, hw] using hv.reads
    omega
  · have hmany : 1 < stepsLeft s := by simp [stepsLeft, hs, ha]; omega
    obtain ⟨-, heq⟩ | ⟨-, -, heq⟩ | ⟨d0, d1, d2, d3, l, -, -, heq⟩ :=
      afterRead_cases (unpackReadAnswer w) (s.takeReadAns w rest) <;> rw [heq]
    · exact nearer_trapEntry hv.resetReq hmany
    · exact nearer_trapEntry hv.resetReq hmany
    · exact ⟨⟨hv.resetReq, by simpa [hs] using hv.writes, by simpa [hs] using hv.delays,
        by simpa [hs, hw] using hv.reads⟩, by simp [stepsLeft, hs, ha]; omega⟩

/-- The dispatch step ends an acquisition, after which fewer quantities are pending. -/
theorem nearer_endDispatch {s u : State} {m : QMask} (hv : Served s) (hs : s.seq = .dec)
    (hr : u.resetReq = s.resetReq) (ha : u.awaiting = false) (hw : u.writeAns = s.writeAns)
    (hd : u.delayAns = s.delayAns) (hra : u.readAns = s.readAns) (hm : maskCount m < maskCount s.pend) :
    Nearer s (u.endDispatch m) := by
  have hreset : u.resetReq = false := hr.trans hv.resetReq
  by_cases hdone : m = 0#3
  · exact ⟨served_of_nothing_pending hreset hdone, by simp [stepsLeft, hs, hdone]; omega⟩
  · have hwrites : maskCount s.pend ≤ s.writeAns.length + 1 := by simpa [hs] using hv.writes
    have hdelays : maskCount s.pend ≤ s.delayAns + 1 := by simpa [hs] using hv.delays
    have hreads : maskCount s.pend ≤ s.readAns.length + 1 := by simpa [hs] using hv.reads
    refine ⟨⟨hreset, ?_, ?_, ?_⟩, by simp [stepsLeft, hs, ha, hdone]; omega⟩
    · simp [hdone, hw]; omega
    · simp [hdone, hd]; omega
    · simp [hdone, hra]; omega

theorem dispatchStep_nearer {s t : State} (h : Inv s) (hv : Served s) (hs : s.seq = .dec)
    (hx : dispatchStep s = .next t) : Nearer s t := by
  have hpos := maskCount_pend_pos h (by simp [hs, working])
  have ha : s.awaiting = false := awaiting_eq_false h (by simp [hs]) (by simp [hs]) (by simp [hs])
  obtain ⟨-, ⟨-, rfl⟩ | ⟨q, -, hq, rfl⟩⟩ := dispatchStep_next hx
  · exact nearer_endDispatch hv hs (by simp) (by simp [ha]) (by simp) (by simp) (by simp) hpos
  · have hclear := maskCount_clear (maskLowest_some hq).1
    exact nearer_endDispatch hv hs (by simp) (by simp [ha]) (by simp) (by simp) (by simp) (by omega)

/-- Every step of a served command brings its end nearer. -/
theorem step_nearer {s : State} (h : Inv s) (hv : Served s) (hi : s.seq ≠ .idle) :
    ∃ t, step s = .next t ∧ Nearer s t := by
  obtain ⟨t, hx⟩ := invariantStatesAlwaysStep.1 s h
  refine ⟨t, hx, ?_⟩
  have hr := hv.resetReq
  cases hs : s.seq with
  | idle => exact absurd hs hi
  | trig => exact execTrigWrite_nearer h hv ((step_trig hr hs).symm.trans hx)
  | wait => exact execWait40_nearer h hv ((step_wait hr hs).symm.trans hx)
  | read => exact execBlkRead_nearer h hv ((step_read hr hs).symm.trans hx)
  | dec => exact dispatchStep_nearer h hv hs ((step_dec hr hs).symm.trans hx)
  | resp =>
    cases (step_resp hr hs).symm.trans hx
    exact ⟨served_of_nothing_pending hr rfl, by simp [stepsLeft, hs]⟩

/-- A served command is over within the steps left to it. -/
theorem run_to_idle {s : State} (h : Inv s) (hv : Served s) :
    ∃ k t, k ≤ stepsLeft s ∧ Sys2Proof.core.run k s = .next t ∧ t.seq = .idle := by
  by_cases hi : s.seq = .idle
  · exact ⟨0, s, Nat.zero_le _, run_zero s, hi⟩
  · obtain ⟨t, hx, hserved, hfewer⟩ := step_nearer h hv hi
    obtain ⟨k, u, hk, hrun, hu⟩ := run_to_idle (step_inv h hx) hserved
    exact ⟨k + 1, u, Nat.lt_of_le_of_lt hk hfewer, (run_succ hx k).trans hrun, hu⟩
termination_by stepsLeft s

theorem maskCount_le (m : QMask) : maskCount m ≤ 3 := by
  revert m
  decide

theorem stepsLeft_le (s : State) : stepsLeft s ≤ 22 := by
  have hcount := maskCount_le s.pend
  unfold stepsLeft
  split <;> omega

/-- Three answers of each kind serve any command, since it asks for at most three quantities. -/
theorem served_of_three {s : State} (hr : s.resetReq = false) (hw : 3 ≤ s.writeAns.length) (hd : 3 ≤ s.delayAns)
    (hra : 3 ≤ s.readAns.length) : Served s := by
  have hcount := maskCount_le s.pend
  refine ⟨hr, ?_, ?_, ?_⟩ <;> split <;> omega

/-- Settles O59: a served command has at most 22 steps left, and each step leaves fewer. -/
theorem answeredCommandReturnsToIdle : Obligations.AnsweredCommandReturnsToIdle := by
  intro s h hr _ hw hd hra
  obtain ⟨k, t, hk, hrun, ht⟩ := run_to_idle h (served_of_three hr hw hd hra)
  exact ⟨k, t, hk.trans (stepsLeft_le s), hrun, ht⟩

end Sys2Proof.Proofs

/-! Proofs of the statements of spec/60_exceptions.md: the command port of several callers, and where an error
comes from. -/

namespace Sys2Proof.Proofs

open Sys2Proof.Machine Sys2Proof.Safety

/-! ## The command port of several callers -/

/-- In IDLE the word handed on is the one the free value chose among those on offer (R105, R140). -/
theorem fetch_eq_code_iff {s s' : State} {c : Code} (hs : s.seq = .idle) :
    s.fetch = .code c s' ↔
      ∃ w rest, chooseOffer s.draws (offers s.callers) = some (w, rest) ∧ c = .cmd w ∧ s' = s.accept w rest := by
  constructor
  · intro hf
    cases ho : chooseOffer s.draws (offers s.callers) with
    | none => simp [(fetch_eq_nothing_iff hs).2 ho] at hf
    | some o =>
      obtain ⟨w, rest⟩ := o
      cases (fetch_of_choice hs ho).symm.trans hf
      exact ⟨w, rest, rfl, rfl, rfl⟩
  · rintro ⟨w, rest, ho, rfl, rfl⟩
    exact fetch_of_choice hs ho

/-- Settles O3: the chosen word is on offer, and a word on offer is the first one of some caller. -/
theorem acceptedWordIsHeldBySomeCaller : Obligations.AcceptedWordIsHeldBySomeCaller := by
  intro s s' c hs hf
  obtain ⟨w, rest, ho, rfl, rfl⟩ := (fetch_eq_code_iff hs).1 hf
  obtain ⟨before, after, ws, hcallers, rfl⟩ := offers_spec (chooseOffer_mem ho)
  exact ⟨before, after, w, ws, hcallers, rfl, rfl⟩

/-- What is on offer stays so beside one more caller, who keeps its words (R139, R140). -/
theorem mem_offers_cons {w : CmdWord} {cs rest : List (List CmdWord)} (l : List CmdWord)
    (h : (w, rest) ∈ offers cs) : (w, l :: rest) ∈ offers (l :: cs) := by
  have hkept : (w, l :: rest) ∈ (offers cs).map fun o => (o.1, l :: o.2) := List.mem_map_of_mem h
  cases l with
  | nil => exact hkept
  | cons v vs => exact List.mem_cons_of_mem _ hkept

/-- Settles O5, by induction on the callers before the one that holds the word. -/
theorem everyHeldWordMayBeAccepted : Obligations.EveryHeldWordMayBeAccepted := by
  intro before after w ws
  induction before with
  | nil => exact List.mem_cons_self
  | cons l before ih => exact mem_offers_cons l ih

/-! ## Where an error comes from -/

/-- The outstanding trigger write is answered with a non-zero status, and `t` is the state after trap entry
(R126, R129). -/
def WriteFails (s t : State) : Prop :=
  s.seq = .trig ∧ s.awaiting = true ∧
    ∃ st rest, st ≠ 0 ∧ t = (s.takeWriteAns st rest).trapEntry .writeFail st

/-- The outstanding block read is answered with a failure, and `t` is the state after trap entry with a status
that is not zero (R127 to R129). -/
def ReadFails (s t : State) : Prop :=
  s.seq = .read ∧ s.awaiting = true ∧
    ∃ w rest st, st ≠ 0 ∧ t = (s.takeReadAns w rest).trapEntry .readFail st

theorem execTrigWrite_keepsErr_or_fails {s t : State} (hx : execTrigWrite s = .next t) :
    t.err = s.err ∨ WriteFails s t := by
  obtain ⟨hs, ⟨-, rfl⟩ | ⟨-, -, rfl⟩ | ⟨st, rest, ha, -, ⟨-, rfl⟩ | ⟨hst, rfl⟩⟩⟩ := execTrigWrite_next hx
  · exact .inl rfl
  · exact .inl rfl
  · exact .inl rfl
  · exact .inr ⟨hs, ha, st, rest, hst, rfl⟩

theorem execWait40_err {s t : State} (hx : execWait40 s = .next t) : t.err = s.err := by
  obtain ⟨-, ⟨-, rfl⟩ | ⟨-, -, rfl⟩ | ⟨n, -, -, rfl⟩⟩ := execWait40_next hx <;> rfl

theorem execBlkRead_keepsErr_or_fails {s t : State} (hx : execBlkRead s = .next t) :
    t.err = s.err ∨ ReadFails s t := by
  obtain ⟨hs, ⟨-, rfl⟩ | ⟨-, -, rfl⟩ | ⟨w, rest, ha, -, rfl⟩⟩ := execBlkRead_next hx
  · exact .inl rfl
  · exact .inl rfl
  · obtain ⟨-, heq⟩ | ⟨-, hst, heq⟩ | ⟨d0, d1, d2, d3, l, -, -, heq⟩ :=
      afterRead_cases (unpackReadAnswer w) (s.takeReadAns w rest) <;> rw [heq]
    · exact .inr ⟨hs, ha, w, rest, _, Config.ioErrorCode_ne_zero, rfl⟩
    · exact .inr ⟨hs, ha, w, rest, _, hst, rfl⟩
    · exact .inl rfl

theorem dispatchStep_err {s t : State} (hx : dispatchStep s = .next t) : t.err = s.err := by
  obtain ⟨-, ⟨-, rfl⟩ | ⟨q, -, -, rfl⟩⟩ := dispatchStep_next hx
  · simp [State.dispatchShared]
  · simp [State.dispatchOne]

/-- A step keeps ERR or clears it, unless it takes the answer to a request that failed (R16, R129). -/
theorem step_keepsErr_or_fails {s t : State} (hx : step s = .next t) :
    t.err = s.err ∨ t.err = .none ∨ WriteFails s t ∨ ReadFails s t := by
  obtain ⟨-, rfl⟩ | ⟨-, ⟨-, rfl⟩ | ⟨-, w, rest, i, -, -, -, rfl⟩ | ⟨-, w, rest, p, -, -, rfl⟩ |
    ⟨-, w, rest, -, -, rfl⟩ | htrig | hwait | hread | ⟨-, hdec⟩ | ⟨-, rfl⟩⟩ := step_cases hx
  · exact .inr (.inl rfl)
  · exact .inl rfl
  · exact .inr (.inl rfl)
  · exact .inl rfl
  · exact .inl rfl
  · exact (execTrigWrite_keepsErr_or_fails htrig).imp_right fun hfail => .inr (.inl hfail)
  · exact .inl (execWait40_err hwait)
  · exact (execBlkRead_keepsErr_or_fails hread).imp_right fun hfail => .inr (.inr hfail)
  · exact .inl (dispatchStep_err hdec)
  · exact .inr (.inl rfl)

/-- Settles O52: no other step sets ERR, and trap entry keeps what taking the answer has kept. -/
theorem errorsComeFromAnswersOnly : Obligations.ErrorsComeFromAnswersOnly := by
  intro s t _ hx hs ht
  obtain hkept | hcleared | ⟨hseq, ha, st, rest, hst, rfl⟩ | ⟨hseq, ha, w, rest, st, hst, rfl⟩ :=
    step_keepsErr_or_fails hx
  · exact absurd (hkept.trans hs) ht
  · exact absurd hcleared ht
  · exact ⟨.inl ⟨hseq, rfl⟩, ha, rfl, hst, rfl, rfl, rfl, rfl, rfl, rfl, rfl, rfl, rfl, rfl⟩
  · exact ⟨.inr ⟨hseq, rfl⟩, ha, rfl, hst, rfl, rfl, rfl, rfl, rfl, rfl, rfl, rfl, rfl, rfl⟩

end Sys2Proof.Proofs

/-! Proof of the statement of spec/70_reset_and_hazards.md: a step with reset asserted. -/

namespace Sys2Proof.Proofs

open Sys2Proof.Machine Sys2Proof.Safety

/-- The answer ignored is the one to the request of phase `p`, and only while that request is outstanding
(R146). -/
theorem dropIf_outstanding {α : Type} (s : State) (p : Phase) (l : List α) :
    dropIf (s.awaiting && s.seq == p) l = if s.awaiting = true ∧ s.seq = p then l.tail else l := by
  simp [dropIf]

/-- Settles O34: the step is the reset, which leaves the next answer at the port of an outstanding request
unused. -/
theorem resetAbandonsWhatIsInProgress : Obligations.ResetAbandonsWhatIsInProgress := by
  intro s hr
  rw [step_reset hr]
  simp [State.applyReset, dropIf_outstanding]

end Sys2Proof.Proofs

/-! Proof of the statement about a host command asked for while BUSY = 1 (spec/60_exceptions.md, section 9). -/

namespace Sys2Proof.Proofs

open Sys2Proof.Machine

/-- Outside IDLE a host command is held, whatever its effect would be (R140). -/
theorem acceptedIn_of_busy {s : State} (hs : s.seq ≠ .idle) (effect : State) :
    acceptedIn s effect = .next s := by
  have hbusy : s.busy = true := by simpa [State.busy] using hs
  exact if_pos hbusy

/-- Settles O13: each of the six host commands has its effect through `acceptedIn`, and a micro-operation is not
encoded as a command word. -/
theorem busyBlockHoldsACommand : Obligations.BusyBlockHoldsACommand := by
  intro i w s hi hs
  cases i with
  | readTempF | readTempC | readHumid | readTempHumid | readAll | setPolicy => exact acceptedIn_of_busy hs _
  | trigWrite | wait40 | blkRead => simp [encode] at hi

end Sys2Proof.Proofs
